-- ==== Sys2Proof/Word.lean ====
section
/-! DEFINITION. The widths of the block: bytes, port numbers, request words, window offsets, plane numbers, and
the plain data a plane of video memory is held as. -/

namespace Sys2Proof

/-- A `u8` of `00_scope.md` R17: one data register, one plane byte, one palette component. -/
abbrev Byte := BitVec 8

/-- A port number, 16 bits (`20_memory.md` R81). -/
abbrev Port := BitVec 16

/-- A request word, 32 bits (`30_encoding.md` R112). -/
abbrev Word := BitVec 32

/-- A window offset as the request word carries it, 29 bits (`30_encoding.md` R117). -/
abbrev Offset := BitVec 29

/-- A plane number, 0..3 (`10_state.md` R44). -/
abbrev Plane := Fin 4

/-- The bytes of one plane that differ from what an unlisted offset reads as, by rising offset. -/
abbrev Memory := List Host.Cell

end Sys2Proof
end

