-- ==== Sys2Proof/Syntax.lean ====
section
/-! DEFINITION. The requests of the block: the operands of `30_encoding.md`, the inductive of its operations (one
constructor per row of the opcode table) and the request record they are decoded from. -/

namespace Sys2Proof

/-- The width of an I/O access: 1, 2 or 4 bytes (`30_encoding.md` R116). -/
inductive IoSize where
  | byte
  | word
  | dword
  deriving DecidableEq, Repr

/-- The value an I/O access moves, 8·size bits wide (`30_encoding.md` R110, R111). -/
inductive IoData where
  | b8  (v : BitVec 8)
  | b16 (v : BitVec 16)
  | b32 (v : BitVec 32)
  deriving DecidableEq, Repr

/-- The width of the access that moves this value. -/
def IoData.size : IoData → IoSize
  | .b8 _  => .byte
  | .b16 _ => .word
  | .b32 _ => .dword

/-- The operations: one constructor per row of `opcode_table.json`, in the table's order. Where two ports are
aliases (`30_encoding.md` R121) the table has two rows, and so there are two constructors, `…Mono` and `…Colour`.
An IN carries the access size, an OUT the value written; a row for "any other port" carries the port as well. -/
inductive Instr where
  /-- IN.CRTI at 0x3B4 (R154). -/
  | inCrtiMono (size : IoSize)
  /-- IN.CRTI at 0x3D4 (R154). -/
  | inCrtiColour (size : IoSize)
  /-- OUT.CRTI at 0x3B4 (R155). -/
  | outCrtiMono (d : IoData)
  /-- OUT.CRTI at 0x3D4 (R155). -/
  | outCrtiColour (d : IoData)
  /-- IN.CRTD at 0x3B5 (R156). -/
  | inCrtdMono (size : IoSize)
  /-- IN.CRTD at 0x3D5 (R156). -/
  | inCrtdColour (size : IoSize)
  /-- OUT.CRTD at 0x3B5 (R157). -/
  | outCrtdMono (d : IoData)
  /-- OUT.CRTD at 0x3D5 (R157). -/
  | outCrtdColour (d : IoData)
  /-- IN.SEQI at 0x3C4 (R158). -/
  | inSeqi (size : IoSize)
  /-- OUT.SEQI at 0x3C4 (R159). -/
  | outSeqi (d : IoData)
  /-- IN.SEQD at 0x3C5 (R160). -/
  | inSeqd (size : IoSize)
  /-- OUT.SEQD at 0x3C5 (R161). -/
  | outSeqd (d : IoData)
  /-- IN.GRI at 0x3CE (R162). -/
  | inGri (size : IoSize)
  /-- OUT.GRI at 0x3CE (R163). -/
  | outGri (d : IoData)
  /-- IN.GRD at 0x3CF (R164). -/
  | inGrd (size : IoSize)
  /-- OUT.GRD at 0x3CF (R165). -/
  | outGrd (d : IoData)
  /-- IN.ATTR at 0x3C0 (R173). -/
  | inAttr (size : IoSize)
  /-- OUT.ATTR at 0x3C0 (R172). -/
  | outAttr (d : IoData)
  /-- IN.ATTRD at 0x3C1 (R174). -/
  | inAttrd (size : IoSize)
  /-- OUT.ATTRD at 0x3C1 (R175). -/
  | outAttrd (d : IoData)
  /-- IN.DACRI at 0x3C7 (R187). -/
  | inDacri (size : IoSize)
  /-- OUT.DACRI at 0x3C7 (R186). -/
  | outDacri (d : IoData)
  /-- IN.DACWI at 0x3C8 (R189). -/
  | inDacwi (size : IoSize)
  /-- OUT.DACWI at 0x3C8 (R188). -/
  | outDacwi (d : IoData)
  /-- IN.DACD at 0x3C9 (R191). -/
  | inDacd (size : IoSize)
  /-- OUT.DACD at 0x3C9 (R190). -/
  | outDacd (d : IoData)
  /-- IN.ST0 at 0x3C2 (R201). -/
  | inSt0 (size : IoSize)
  /-- OUT.MISC at 0x3C2 (R200). -/
  | outMisc (d : IoData)
  /-- IN.MISCR at 0x3CC (R202). -/
  | inMiscr (size : IoSize)
  /-- OUT.MISCR at 0x3CC (R203). -/
  | outMiscr (d : IoData)
  /-- IN.FEATR at 0x3CA (R204). -/
  | inFeatr (size : IoSize)
  /-- OUT.FEATR at 0x3CA (R205). -/
  | outFeatr (d : IoData)
  /-- IN.ST1 at 0x3BA (R206). -/
  | inSt1Mono (size : IoSize)
  /-- IN.ST1 at 0x3DA (R206). -/
  | inSt1Colour (size : IoSize)
  /-- OUT.FEAT at 0x3BA (R207). -/
  | outFeatMono (d : IoData)
  /-- OUT.FEAT at 0x3DA (R207). -/
  | outFeatColour (d : IoData)
  /-- IN.ENA at 0x3C3 (R208). -/
  | inEna (size : IoSize)
  /-- OUT.ENA at 0x3C3 (R209). -/
  | outEna (d : IoData)
  /-- IN.NONE at any port that no other row lists (R144). -/
  | inNone (port : Port) (size : IoSize)
  /-- OUT.NONE at any port that no other row lists (R145). -/
  | outNone (port : Port) (d : IoData)
  /-- MMIO.W: the bytes for window offsets `off`, `off + 1`, … (R250). -/
  | mmioW (off : Offset) (bytes : List Byte)
  /-- MMIO.R: `len` bytes from window offset `off` (R251). -/
  | mmioR (off : Offset) (len : Nat)
  /-- HOST.ATTACH with WINDOW_BASE, WINDOW_LEN and the host's draw ATTACH_OK (R260, R15; log entry 5). -/
  | hostAttach (base length : BitVec 32) (ok : Bool)
  /-- HOST.DETACH (R262). -/
  | hostDetach
  /-- HOST.DIAG (R263). -/
  | hostDiag
  deriving DecidableEq, Repr

/-- A request record (`30_encoding.md` R110): the request word (R112) and the data operands it does not carry. An
operand that the word's format does not use is present in the record but not read (log entry 10). `attachOk` is
the draw ATTACH_OK that comes with an ATTACH (`00_scope.md` R15). -/
structure Request where
  word     : Word
  wdata    : BitVec 32 := 0
  len      : Nat := 0
  wbytes   : List Byte := []
  base     : BitVec 32 := 0
  length   : BitVec 32 := 0
  attachOk : Bool := false
  deriving DecidableEq, Repr

/-- Why a request word spells no request: each reserved form of `30_encoding.md` R119, by name. -/
inductive ReservedWord where
  /-- Space 11. -/
  | space
  /-- An IO word with a nonzero bit in 28:18. -/
  | ioBits
  /-- An IO word with sz = 11. -/
  | ioSize
  /-- A HOST word with dir = 1. -/
  | hostDir
  /-- A HOST word with a nonzero bit in 28:8. -/
  | hostBits
  /-- A HOST word with a hostop other than 0x01..0x03. -/
  | hostOp
  deriving DecidableEq, Repr

end Sys2Proof
end

