-- ==== Sys2Proof/WellFormed.lean ====
section
/-! DEFINITION. Which operand values a request can have. The types of Syntax.lean already hold every width, so one
check is left: the "any other port" rows name a port that no specific row lists. -/

namespace Sys2Proof

/-- The ports that a specific row of `30_encoding.md` R120 lists. -/
def mappedPorts : List Port :=
  [0x3B4, 0x3D4, 0x3B5, 0x3D5, 0x3C4, 0x3C5, 0x3CE, 0x3CF, 0x3C0, 0x3C1, 0x3C7, 0x3C8, 0x3C9, 0x3C2, 0x3CC, 0x3CA,
   0x3BA, 0x3DA, 0x3C3]

/-- The operands are ones a request word can carry: IN.NONE and OUT.NONE only at a port that no specific row lists
(`30_encoding.md` R122). -/
def WellFormed : Instr → Bool
  | .inNone port _  => !mappedPorts.contains port
  | .outNone port _ => !mappedPorts.contains port
  | .inCrtiMono _ | .inCrtiColour _ | .outCrtiMono _ | .outCrtiColour _
  | .inCrtdMono _ | .inCrtdColour _ | .outCrtdMono _ | .outCrtdColour _
  | .inSeqi _ | .outSeqi _ | .inSeqd _ | .outSeqd _ | .inGri _ | .outGri _ | .inGrd _ | .outGrd _
  | .inAttr _ | .outAttr _ | .inAttrd _ | .outAttrd _
  | .inDacri _ | .outDacri _ | .inDacwi _ | .outDacwi _ | .inDacd _ | .outDacd _
  | .inSt0 _ | .outMisc _ | .inMiscr _ | .outMiscr _ | .inFeatr _ | .outFeatr _
  | .inSt1Mono _ | .inSt1Colour _ | .outFeatMono _ | .outFeatColour _ | .inEna _ | .outEna _
  | .mmioW _ _ | .mmioR _ _ | .hostAttach _ _ _ | .hostDetach | .hostDiag => true

end Sys2Proof
end

