-- ==== Sys2Proof/Decode.lean ====
section
/-! DEFINITION. The decoder from request records to operations (`30_encoding.md` R112 to R122), total, rejecting each
reserved form by name; then the encoder; then the decoder on a word of the opcode table. -/

namespace Sys2Proof

/-- `space` = word[31:30] (R113). -/
def fieldSpace (w : Word) : BitVec 2 := w.extractLsb' 30 2

/-- `dir` = word[29]: true is a write (R114). -/
def fieldDir (w : Word) : Bool := w.getLsbD 29

/-- word[28:18], reserved in the IO format (R115). -/
def fieldIoReserved (w : Word) : BitVec 11 := w.extractLsb' 18 11

/-- `sz` = word[17:16] (R116). -/
def fieldSz (w : Word) : BitVec 2 := w.extractLsb' 16 2

/-- `port` = word[15:0] (R115). -/
def fieldPort (w : Word) : Port := w.extractLsb' 0 16

/-- `off` = word[28:0] (R117). -/
def fieldOff (w : Word) : Offset := w.extractLsb' 0 29

/-- word[28:8], reserved in the HOST format (R118). -/
def fieldHostReserved (w : Word) : BitVec 21 := w.extractLsb' 8 21

/-- `hostop` = word[7:0] (R118). -/
def fieldHostop (w : Word) : BitVec 8 := w.extractLsb' 0 8

/-- The size code: 00 is 1 byte, 01 is 2, 10 is 4, 11 is reserved (R116). -/
def decodeSize (sz : BitVec 2) : Option IoSize :=
  if sz = 0#2 then some .byte
  else if sz = 1#2 then some .word
  else if sz = 2#2 then some .dword
  else none

/-- The value of a write of this size: the low 8·size bits of the record's `wdata` (R110). -/
def decodeData (size : IoSize) (wdata : BitVec 32) : IoData :=
  match size with
  | .byte  => .b8 (wdata.setWidth 8)
  | .word  => .b16 (wdata.setWidth 16)
  | .dword => .b32 wdata

/-- The IN column of the port map (R120): one operation per port, no fall-through (R122, R140). -/
def decodeIn (port : Port) (size : IoSize) : Instr :=
  match port with
  | 0x3B4#16 => .inCrtiMono size
  | 0x3D4#16 => .inCrtiColour size
  | 0x3B5#16 => .inCrtdMono size
  | 0x3D5#16 => .inCrtdColour size
  | 0x3C4#16 => .inSeqi size
  | 0x3C5#16 => .inSeqd size
  | 0x3CE#16 => .inGri size
  | 0x3CF#16 => .inGrd size
  | 0x3C0#16 => .inAttr size
  | 0x3C1#16 => .inAttrd size
  | 0x3C7#16 => .inDacri size
  | 0x3C8#16 => .inDacwi size
  | 0x3C9#16 => .inDacd size
  | 0x3C2#16 => .inSt0 size
  | 0x3CC#16 => .inMiscr size
  | 0x3CA#16 => .inFeatr size
  | 0x3BA#16 => .inSt1Mono size
  | 0x3DA#16 => .inSt1Colour size
  | 0x3C3#16 => .inEna size
  | _        => .inNone port size

/-- The OUT column of the port map (R120). -/
def decodeOut (port : Port) (d : IoData) : Instr :=
  match port with
  | 0x3B4#16 => .outCrtiMono d
  | 0x3D4#16 => .outCrtiColour d
  | 0x3B5#16 => .outCrtdMono d
  | 0x3D5#16 => .outCrtdColour d
  | 0x3C4#16 => .outSeqi d
  | 0x3C5#16 => .outSeqd d
  | 0x3CE#16 => .outGri d
  | 0x3CF#16 => .outGrd d
  | 0x3C0#16 => .outAttr d
  | 0x3C1#16 => .outAttrd d
  | 0x3C7#16 => .outDacri d
  | 0x3C8#16 => .outDacwi d
  | 0x3C9#16 => .outDacd d
  | 0x3C2#16 => .outMisc d
  | 0x3CC#16 => .outMiscr d
  | 0x3CA#16 => .outFeatr d
  | 0x3BA#16 => .outFeatMono d
  | 0x3DA#16 => .outFeatColour d
  | 0x3C3#16 => .outEna d
  | _        => .outNone port d

/-- The IO format (R115, R116, R119). -/
def decodeIo (r : Request) : Except ReservedWord Instr :=
  if fieldIoReserved r.word ≠ 0#11 then .error .ioBits
  else
    match decodeSize (fieldSz r.word) with
    | none      => .error .ioSize
    | some size =>
      if fieldDir r.word then .ok (decodeOut (fieldPort r.word) (decodeData size r.wdata))
      else .ok (decodeIn (fieldPort r.word) size)

/-- The MMIO format (R117). The length of a write is the number of bytes listed (R126; log entry 11). -/
def decodeMmio (r : Request) : Except ReservedWord Instr :=
  if fieldDir r.word then .ok (.mmioW (fieldOff r.word) r.wbytes)
  else .ok (.mmioR (fieldOff r.word) r.len)

/-- The HOST format (R118, R119). -/
def decodeHost (r : Request) : Except ReservedWord Instr :=
  if fieldDir r.word then .error .hostDir
  else if fieldHostReserved r.word ≠ 0#21 then .error .hostBits
  else if fieldHostop r.word = 0x01#8 then .ok (.hostAttach r.base r.length r.attachOk)
  else if fieldHostop r.word = 0x02#8 then .ok .hostDetach
  else if fieldHostop r.word = 0x03#8 then .ok .hostDiag
  else .error .hostOp

/-- The decoder: the format from bits 31:30 alone (R113, R125), then the operation. -/
def decode (r : Request) : Except ReservedWord Instr :=
  if fieldSpace r.word = 0#2 then decodeIo r
  else if fieldSpace r.word = 1#2 then decodeMmio r
  else if fieldSpace r.word = 2#2 then decodeHost r
  else .error .space

/-- The size code of a width (R116). -/
def encodeSize : IoSize → BitVec 2
  | .byte  => 0
  | .word  => 1
  | .dword => 2

/-- The record's `wdata` for a value of 8·size bits. -/
def encodeData : IoData → BitVec 32
  | .b8 v  => v.setWidth 32
  | .b16 v => v.setWidth 32
  | .b32 v => v

/-- An IO word: space 00, the direction, 28:18 zero, the size code, the port (R112, R115). -/
def ioWord (dir : BitVec 1) (port : Port) (size : IoSize) : Word :=
  0#2 ++ dir ++ 0#11 ++ encodeSize size ++ port

/-- An IO read of a port: dir 0 (R114). -/
def encodeIn (port : Port) (size : IoSize) : Request := { word := ioWord 0 port size }

/-- An IO write to a port: dir 1 (R114). -/
def encodeOut (port : Port) (d : IoData) : Request := { word := ioWord 1 port d.size, wdata := encodeData d }

/-- An MMIO word: space 01, the direction, the offset (R112, R117). -/
def mmioWord (dir : BitVec 1) (off : Offset) : Word := 1#2 ++ dir ++ off

/-- A HOST word: space 10, dir 0 (R118). -/
def encodeHostWord (hostop : BitVec 8) : Word := 2#2 ++ 0#1 ++ 0#21 ++ hostop

/-- The request that spells an operation (R112 to R120). -/
def encode : Instr → Request
  | .inCrtiMono size    => encodeIn 0x3B4 size
  | .inCrtiColour size  => encodeIn 0x3D4 size
  | .outCrtiMono d      => encodeOut 0x3B4 d
  | .outCrtiColour d    => encodeOut 0x3D4 d
  | .inCrtdMono size    => encodeIn 0x3B5 size
  | .inCrtdColour size  => encodeIn 0x3D5 size
  | .outCrtdMono d      => encodeOut 0x3B5 d
  | .outCrtdColour d    => encodeOut 0x3D5 d
  | .inSeqi size        => encodeIn 0x3C4 size
  | .outSeqi d          => encodeOut 0x3C4 d
  | .inSeqd size        => encodeIn 0x3C5 size
  | .outSeqd d          => encodeOut 0x3C5 d
  | .inGri size         => encodeIn 0x3CE size
  | .outGri d           => encodeOut 0x3CE d
  | .inGrd size         => encodeIn 0x3CF size
  | .outGrd d           => encodeOut 0x3CF d
  | .inAttr size        => encodeIn 0x3C0 size
  | .outAttr d          => encodeOut 0x3C0 d
  | .inAttrd size       => encodeIn 0x3C1 size
  | .outAttrd d         => encodeOut 0x3C1 d
  | .inDacri size       => encodeIn 0x3C7 size
  | .outDacri d         => encodeOut 0x3C7 d
  | .inDacwi size       => encodeIn 0x3C8 size
  | .outDacwi d         => encodeOut 0x3C8 d
  | .inDacd size        => encodeIn 0x3C9 size
  | .outDacd d          => encodeOut 0x3C9 d
  | .inSt0 size         => encodeIn 0x3C2 size
  | .outMisc d          => encodeOut 0x3C2 d
  | .inMiscr size       => encodeIn 0x3CC size
  | .outMiscr d         => encodeOut 0x3CC d
  | .inFeatr size       => encodeIn 0x3CA size
  | .outFeatr d         => encodeOut 0x3CA d
  | .inSt1Mono size     => encodeIn 0x3BA size
  | .inSt1Colour size   => encodeIn 0x3DA size
  | .outFeatMono d      => encodeOut 0x3BA d
  | .outFeatColour d    => encodeOut 0x3DA d
  | .inEna size         => encodeIn 0x3C3 size
  | .outEna d           => encodeOut 0x3C3 d
  | .inNone port size   => encodeIn port size
  | .outNone port d     => encodeOut port d
  | .mmioW off bytes    => { word := mmioWord 1 off, len := bytes.length, wbytes := bytes }
  | .mmioR off len      => { word := mmioWord 0 off, len := len }
  | .hostAttach b l ok  => { word := encodeHostWord 0x01, base := b, length := l, attachOk := ok }
  | .hostDetach         => { word := encodeHostWord 0x02 }
  | .hostDiag           => { word := encodeHostWord 0x03 }

/-- The request whose word has the low `nbits` bits of `w`, every higher bit and every data operand zero. -/
def tableRequest (nbits w : Nat) : Request :=
  { word := BitVec.ofNat 32 (w % 2 ^ nbits) }

/-- The operation the decoder reads from a word of the opcode table. -/
def decodeTableWord (nbits w : Nat) : Option Instr :=
  (decode (tableRequest nbits w)).toOption

end Sys2Proof
end

