-- ==== Sys2Proof/Config.lean ====
section
/-! DEFINITION. What an implementation fixes: the parameters of `00_scope.md` §3 and their defaults; and the one free
value of the spec, `draw()`. -/

namespace Sys2Proof.Config

/-- WIDE_IO_POLICY (`00_scope.md` R11): what an I/O access wider than one byte does. -/
inductive WideIoPolicy where
  | truncate
  | ignore
  deriving DecidableEq, Repr

/-- SET_RESET_MODE (`00_scope.md` R12): how Set/Reset combines with the data byte in write mode 0. -/
inductive SetResetMode where
  | bitwise
  | perPlane
  deriving DecidableEq, Repr

/-- WRITE_MODE_123_POLICY (`00_scope.md` R13): what a planar write in write mode 1, 2 or 3 does. -/
inductive WriteMode123Policy where
  | refuse
  | draw
  | vgaGk
  deriving DecidableEq, Repr

/-- The parameters of `00_scope.md` R9, R11 to R14. They are held in the machine's state, which no step changes in
them, so that a statement about every state is a statement about every choice (log entry 3). `initPlanes` is
INIT_PLANES (R14), as the list of its bytes that are not 0x00 (log entry 4). -/
structure Params where
  planeSize    : Nat
  wideIo       : WideIoPolicy
  setReset     : SetResetMode
  writeMode123 : WriteMode123Policy
  initPlanes   : Vector Memory 4
  deriving DecidableEq, Repr

/-- The defaults of `00_scope.md` R9, R11, R12, R13. INIT_PLANES has no default: all-zero is what every test vector
assumes (R14). DESIGN CHOICE, log entry 4 (unsafe for a claim about runs from reset alone). -/
def defaultParams : Params :=
  { planeSize := 0x1000000, wideIo := .truncate, setReset := .bitwise, writeMode123 := .refuse,
    initPlanes := Vector.replicate 4 [] }

/-- The legacy WINDOW_BASE (`00_scope.md` R7). -/
def legacyWindowBase : BitVec 32 := 0xA0000

/-- The legacy WINDOW_LEN (`00_scope.md` R8). -/
def legacyWindowLen : BitVec 32 := 0x20000

/-- The value of the n-th `draw()` for plane p (`00_scope.md` R18, used by `45_address_decode.md` R230 under DRAW): a
FREE VALUE. It has no body, so nothing constrains it (log entry 8, safe). -/
opaque drawnByte : Nat → Plane → Byte

end Sys2Proof.Config
end

