-- ==== Sys2Proof/Machine/State.lean ====
section
/-! DEFINITION. The state of the block (`10_state.md` R20), as plain data; the responses it gives
(`30_encoding.md` R111); the reasons a step can stop (`60_exceptions.md` R306); and the state after reset. -/

namespace Sys2Proof.Machine

/-- A RegisterBank (R21): an index and 256 data bytes. -/
structure RegisterBank where
  index : Byte
  data  : Vector Byte 256
  deriving DecidableEq, Repr

/-- The AttributeLatch (R34). `flip` is false in AwaitIndex and true in AwaitData. -/
structure AttributeLatch where
  index : Byte
  data  : Vector Byte 256
  flip  : Bool
  deriving DecidableEq, Repr

/-- The DacPalette (R37): 256 triplets R, G, B; the two cursors; the shared sub-index; the triplet being assembled; the
diagnostic marker. -/
structure DacPalette where
  palette    : Vector (Vector Byte 3) 256
  readIndex  : Byte
  writeIndex : Byte
  subIndex   : Fin 3
  pending    : Vector Byte 3
  dacState   : Byte
  deriving DecidableEq, Repr

/-- The MiscRegisters (R40). -/
structure MiscRegisters where
  status0 : Byte
  status1 : Byte
  feature : Byte
  output  : Byte
  deriving DecidableEq, Repr

/-- `cfg` (R46): the window the block was attached with. -/
structure WindowConfig where
  windowBase : BitVec 32
  windowLen  : BitVec 32
  deriving DecidableEq, Repr

/-- The status of a response with the information it records (`60_exceptions.md` R301). -/
inductive Status where
  | ok
  | invalidAccessWidth (port : Port) (size : IoSize)
  | outOfRangeAddress (first : Nat)
  | configurationError
  deriving DecidableEq, Repr

/-- The data of a read's response (`30_encoding.md` R111): 8·size bits for IO, the bytes for MMIO, one byte for DIAG. -/
inductive ReadData where
  | io (d : IoData)
  | mmio (bytes : List Byte)
  | diag (b : Byte)
  deriving DecidableEq, Repr

/-- A response (`30_encoding.md` R111): a write's has no `rdata`. -/
structure Response where
  rdata  : Option ReadData
  status : Status
  deriving DecidableEq, Repr

/-- A request as it reaches the block. `overlapped` says that it overlaps another request to this controller in time,
which the host's duty to serialize rules out (`20_memory.md` R97). DESIGN CHOICE, log entry 9: which of two overlapping
requests is refused is open (R306 says only "two requests that overlap in time"); the outside marks each of the two, and
the step refuses a marked one, so neither completes. -/
structure Arrival where
  req        : Request
  overlapped : Bool := false
  deriving DecidableEq, Repr

/-- The state. The first eleven fields are the spec's (R20); `params` holds its parameters (`00_scope.md` §3; log entry
3); `requests` and `response` are the two sides of the request interface (log entries 1 and 2); `draws` is the model's
own counter of free values taken (log entry 8). -/
structure State where
  crt      : RegisterBank
  seq      : RegisterBank
  gr       : RegisterBank
  attr     : AttributeLatch
  dac      : DacPalette
  misc     : MiscRegisters
  planes   : Vector Memory 4
  latch    : Vector Byte 4
  cfg      : WindowConfig
  attached : Bool
  params   : Config.Params
  requests : List Arrival
  response : Option Response
  draws    : Nat
  deriving DecidableEq, Repr

/-- Faults. The block raises no trap and nothing stops it (`60_exceptions.md` R300, R308), so no step raises one and
the type is closed with no constructor. Safe: there is no fault a claim could lean on (log entry 12). -/
inductive Fault where
  deriving DecidableEq, Repr

/-- Refusals: the cases in which the spec gives a request no meaning (`60_exceptions.md` R306). -/
inductive Refusal where
  /-- Raised by an arm of exec whose instruction has no meaning yet. Safe. No arm raises it now. -/
  | notModelled (mnemonic : String)
  /-- Raised by every IO and MMIO request and by HOST.DIAG while the block is detached (R140, R250, R251, R263). Safe:
  nothing can be proved of such a request's effect. -/
  | notAttached
  /-- Raised by HOST.ATTACH while the block is attached (R260). Safe. -/
  | alreadyAttached
  /-- Raised by the step on a reserved request word (R119), with the reserved form. Safe. -/
  | reservedEncoding (why : ReservedWord)
  /-- Raised by MMIO.W when a byte is decoded in planar mode with write mode 1, 2 or 3 under the policy REFUSE
  (R230). Safe. -/
  | writeModeUnimplemented
  /-- Raised by the step on a request marked as overlapping another in time (R97, R306, R314). Unsafe where only one
  of the two is marked: the other then completes (log entry 9). -/
  | concurrent
  deriving DecidableEq, Repr

/-- What one step of this machine answers. -/
abbrev Result := Host.Outcome State Fault Refusal

/-- A bank at its reset value (R48). -/
def RegisterBank.zero : RegisterBank :=
  { index := 0, data := Vector.replicate 256 0 }

/-- The attribute latch at its reset value (R49). -/
def AttributeLatch.zero : AttributeLatch :=
  { index := 0, data := Vector.replicate 256 0, flip := false }

/-- The DAC at its reset value (R50). -/
def DacPalette.zero : DacPalette :=
  { palette := Vector.replicate 256 (Vector.replicate 3 0), readIndex := 0, writeIndex := 0, subIndex := 0,
    pending := Vector.replicate 3 0, dacState := 0 }

/-- The misc registers at their reset value (R51). -/
def MiscRegisters.zero : MiscRegisters :=
  { status0 := 0, status1 := 0, feature := 0, output := 0 }

/-- The state right after reset (`70_reset_and_hazards.md` R330): a successful ATTACH with the legacy window (R54), the
default parameters, and no request pending. R48 to R54 give every value but these: INIT_PLANES all-zero (log entry 4),
no pending request (log entry 1), no response yet (log entry 2), no free value taken (log entry 8). -/
def State.reset : State :=
  { crt := RegisterBank.zero, seq := RegisterBank.zero, gr := RegisterBank.zero, attr := AttributeLatch.zero,
    dac := DacPalette.zero, misc := MiscRegisters.zero, planes := Config.defaultParams.initPlanes,
    latch := Vector.replicate 4 0,
    cfg := { windowBase := Config.legacyWindowBase, windowLen := Config.legacyWindowLen }, attached := true,
    params := Config.defaultParams, requests := [], response := none, draws := 0 }

end Sys2Proof.Machine
end

