-- ==== Sys2Proof/Machine/Ops.lean ====
section
/-! DEFINITION. The named operations over the registers, the plane memory and the request interface: the generic
RegisterBank operations (`41_regbanks.md` §1), PlaneRead and PlaneWrite (`00_scope.md` R18), responding and signalling a
condition (`60_exceptions.md` R301; the block takes no exception, R300), taking the next request, attaching and
detaching. -/

namespace Sys2Proof.Machine

/-! ### Register banks -/

/-- BankReadIndex (R150). -/
def RegisterBank.readIndex (b : RegisterBank) : Byte := b.index

/-- BankWriteIndex (R151): no mask. -/
def RegisterBank.writeIndex (b : RegisterBank) (v : Byte) : RegisterBank := { b with index := v }

/-- Slot i of a bank. -/
def RegisterBank.slot (b : RegisterBank) (i : Byte) : Byte := b.data[i.toNat]'i.isLt

/-- BankReadData (R152). -/
def RegisterBank.readData (b : RegisterBank) : Byte := b.slot b.index

/-- BankWriteData (R153): the full byte is stored. -/
def RegisterBank.writeData (b : RegisterBank) (v : Byte) : RegisterBank :=
  { b with data := b.data.set b.index.toNat v b.index.isLt }

/-! ### Plane memory -/

/-- What an offset that no cell lists reads as. INIT_PLANES is held as the cells that differ from it, so this is only
how a plane is written down, not a choice of contents (log entry 4). -/
def Memory.unlisted : Byte := 0x00

/-- One byte of a plane. -/
def Memory.read : Memory → Nat → Byte
  | [], _ => Memory.unlisted
  | (b, w) :: rest, a => if a = b then w else Memory.read rest a

/-- Write one byte of a plane, keeping offsets rising and no cell that an unlisted offset would read the same as. -/
def Memory.write : Memory → Nat → Byte → Memory
  | [], a, v => if v = Memory.unlisted then [] else [(a, v)]
  | (b, w) :: rest, a, v =>
    if a < b then (if v = Memory.unlisted then (b, w) :: rest else (a, v) :: (b, w) :: rest)
    else if a = b then (if v = Memory.unlisted then rest else (a, v) :: rest)
    else (b, w) :: Memory.write rest a v

/-- Every listed offset lies above `lo`, offsets rise strictly, and no cell holds what an unlisted offset reads as. -/
def Memory.wfAbove : Option Nat → Memory → Bool
  | _, [] => true
  | lo, (b, w) :: rest =>
    (match lo with
     | none   => true
     | some l => decide (l < b)) && (w != Memory.unlisted) && Memory.wfAbove (some b) rest

/-- The canonical form of a plane: equal planes are equal lists. -/
def Memory.wf (m : Memory) : Bool := Memory.wfAbove none m

/-- PlaneRead (`00_scope.md` R18). At or beyond PLANE_SIZE it reads 0x00 (`20_memory.md` R95). -/
def State.planeRead (s : State) (p : Plane) (o : Nat) : Byte :=
  if o < s.params.planeSize then Memory.read s.planes[p] o else 0x00

/-- PlaneWrite (`00_scope.md` R18). At or beyond PLANE_SIZE it does nothing (`20_memory.md` R95). -/
def State.planeWrite (s : State) (p : Plane) (o : Nat) (v : Byte) : State :=
  if o < s.params.planeSize then { s with planes := s.planes.set p (Memory.write s.planes[p] o v) } else s

/-- What the rendering collaborator reads between two requests (`47_host.md` R264): a plane byte; the block is not
affected. -/
def State.rendererView (s : State) (p : Plane) (o : Nat) : Byte := s.planeRead p o

/-! ### Responses and conditions -/

/-- Give the response of the current request: its data, and the condition it signalled, or OK (R111, R301). A condition
changes no other state and stops nothing (R18, R300). -/
def State.respond (s : State) (rdata : Option ReadData) (status : Status) : State :=
  { s with response := some { rdata := rdata, status := status } }

/-! ### Taking a request -/

/-- What the step finds at the request interface. -/
inductive Fetched where
  | idle
  | reserved (why : ReservedWord)
  | overlap
  | run (i : Instr) (rest : List Arrival)
  deriving DecidableEq, Repr

/-- The next request of the order in which the block receives them (`20_memory.md` R96): none, a reserved word (R119,
checked first by R307), a request marked as overlapping another (R97), or an operation to run. That the marked request
is the one refused, and that an unmarked one runs whatever marks follow it, is the model's choice: R306 does not say which
of the two is refused (DESIGN CHOICE, log entry 9). -/
def State.fetch (s : State) : Fetched :=
  match s.requests with
  | [] => .idle
  | a :: rest =>
    match decode a.req with
    | .error why => .reserved why
    | .ok i => if a.overlapped then .overlap else .run i rest

/-- The state in which a taken request runs: it is no longer pending. -/
def State.accept (s : State) (rest : List Arrival) : State := { s with requests := rest }

/-! ### Lifecycle -/

/-- Every state element at its reset value (`10_state.md` R48 to R54; `70_reset_and_hazards.md` R330), for a window. -/
def State.attachReset (s : State) (base length : BitVec 32) : State :=
  { s with
    crt := RegisterBank.zero, seq := RegisterBank.zero, gr := RegisterBank.zero, attr := AttributeLatch.zero,
    dac := DacPalette.zero, misc := MiscRegisters.zero, planes := s.params.initPlanes,
    latch := Vector.replicate 4 0, cfg := { windowBase := base, windowLen := length }, attached := true }

/-- Everything a detach discards (R55, R262), held as zero while detached, when no request can read it (log entry 7). -/
def State.discard (s : State) : State :=
  { s with
    crt := RegisterBank.zero, seq := RegisterBank.zero, gr := RegisterBank.zero, attr := AttributeLatch.zero,
    dac := DacPalette.zero, misc := MiscRegisters.zero, planes := Vector.replicate 4 [],
    latch := Vector.replicate 4 0, cfg := { windowBase := 0, windowLen := 0 }, attached := false }

end Sys2Proof.Machine
end

