-- ==== Sys2Proof/Machine/Operands.lean ====
section
/-! DEFINITION. The operand forms: the byte a port sees of a written value and the value a port's byte is read as
(`30_encoding.md` R123), the bytes of an MMIO access as an integer (`20_memory.md` R86), and the decoder inputs of
`10_state.md` R47. -/

namespace Sys2Proof.Machine

/-- `wdata[7:0]`, the byte a port sees (R123, R142). -/
def dataByte : IoData → Byte
  | .b8 v  => v
  | .b16 v => v.setWidth 8
  | .b32 v => v.setWidth 8

/-- `zext_(8·size)(d)`, the value a read of this size returns (R123). -/
def zextByte (size : IoSize) (d : Byte) : IoData :=
  match size with
  | .byte  => .b8 d
  | .word  => .b16 (d.setWidth 16)
  | .dword => .b32 (d.setWidth 32)

/-- A multi-byte MMIO access as the host's integer: byte 0 is the least significant (R86). The block never uses it. -/
def littleEndian : List Byte → Nat
  | [] => 0
  | b :: bs => b.toNat + 256 * littleEndian bs

/-- `map_mask` = seq.data[2][3:0] (R24, R47). -/
def State.mapMask (s : State) : BitVec 4 := (s.seq.slot 2).extractLsb' 0 4

/-- Whether `map_mask` enables writes to plane p (R24). -/
def State.planeEnabled (s : State) (p : Plane) : Bool := s.mapMask.getLsbD p

/-- `chain4` = bit 3 of seq.data[4] (R25, R47). -/
def State.chain4 (s : State) : Bool := (s.seq.slot 4).getLsbD 3

/-- `write_mode` = gr.data[5][1:0] (R30, R47). -/
def State.writeMode (s : State) : BitVec 2 := (s.gr.slot 5).extractLsb' 0 2

/-- `oddeven` = bit 4 of gr.data[5] (R30, R47). -/
def State.oddEven (s : State) : Bool := (s.gr.slot 5).getLsbD 4

/-- `rms` = gr.data[4] (R29, R47). -/
def State.readMapSelect (s : State) : Byte := s.gr.slot 4

/-- `mmm` = gr.data[6][3:2] (R31, R47). -/
def State.memoryMapMode (s : State) : BitVec 2 := (s.gr.slot 6).extractLsb' 2 2

/-- `sr` = gr.data[0] (R27, R47). -/
def State.setReset (s : State) : Byte := s.gr.slot 0

/-- `esr` = gr.data[1] (R28, R47). -/
def State.enableSetReset (s : State) : Byte := s.gr.slot 1

/-- `bm` = gr.data[8] (R32, R47). -/
def State.bitMask (s : State) : Byte := s.gr.slot 8

/-- `rot` = gr.data[3][2:0], read only under VGA_GK (R231). -/
def State.rotateCount (s : State) : BitVec 3 := (s.gr.slot 3).extractLsb' 0 3

/-- `fn` = gr.data[3][4:3], read only under VGA_GK (R231). -/
def State.functionSelect (s : State) : BitVec 2 := (s.gr.slot 3).extractLsb' 3 2

end Sys2Proof.Machine
end

