-- ==== Sys2Proof/Machine/Flags.lean ====
section
/-! DEFINITION. The block has no condition codes (`10_state.md` R58). Its flags are the sequencing state: the attribute
flip-flop (`42_attribute.md` R170), the DAC sub-index and the DAC state marker (`10_state.md` R37, R39); and the status
code of a response (`60_exceptions.md` R301). -/

namespace Sys2Proof.Machine

/-- A write of port 0x3C0 toggles the flip-flop (R170). -/
def AttributeLatch.toggle (a : AttributeLatch) : AttributeLatch := { a with flip := !a.flip }

/-- A status-1 read puts the flip-flop in AwaitIndex (R170, R206). -/
def AttributeLatch.awaitIndex (a : AttributeLatch) : AttributeLatch := { a with flip := false }

/-- The sub-index after an access of port 0x3C9: 0, 1, 2, then 0 again (R190, R191). -/
def nextSubIndex (i : Fin 3) : Fin 3 := if i = 2 then 0 else if i = 1 then 2 else 1

/-- The marker after a write of the write index (R39, R188). -/
def dacStateWrite : Byte := 0

/-- The marker after a write of the read index (R39, R186). -/
def dacStateRead : Byte := 3

/-- The number of a status (R301). -/
def Status.code : Status → Nat
  | .ok => 0
  | .invalidAccessWidth _ _ => 1
  | .outOfRangeAddress _ => 2
  | .configurationError => 3

end Sys2Proof.Machine
end

