-- ==== Sys2Proof/Machine/IoDispatch.lean ====
section
/-! DEFINITION. The I/O procedure that every IO request goes through (`40_io_dispatch.md` R140, R142, R143), over the one
byte operation its port selects; and the operations of the ports that no row lists (R144, R145). -/

namespace Sys2Proof.Machine

/-- IoRequest for a read (R140): `op` is OpRead of the port, the byte it returns and the state it leaves. A wide access
signals InvalidAccessWidth and follows WIDE_IO_POLICY: under TRUNCATE the operation runs once, on this port only (R142);
under IGNORE nothing runs and zero is returned (R143). -/
def ioRead (port : Port) (op : State → Byte × State) (size : IoSize) (s : State) : Result :=
  if s.attached then
    match size with
    | .byte => .next ((op s).2.respond (some (.io (.b8 (op s).1))) .ok)
    | _ =>
      match s.params.wideIo with
      | .truncate =>
        .next ((op s).2.respond (some (.io (zextByte size (op s).1))) (.invalidAccessWidth port size))
      | .ignore =>
        .next (s.respond (some (.io (zextByte size 0))) (.invalidAccessWidth port size))
  else .refused .notAttached

/-- IoRequest for a write (R140): `op` is OpWrite of the port on one byte. A wide access signals InvalidAccessWidth;
under TRUNCATE the low byte is written and the upper bytes are discarded (R142), under IGNORE nothing is (R143). -/
def ioWrite (port : Port) (op : Byte → State → State) (d : IoData) (s : State) : Result :=
  if s.attached then
    match d.size with
    | .byte => .next ((op (dataByte d) s).respond none .ok)
    | _ =>
      match s.params.wideIo with
      | .truncate => .next ((op (dataByte d) s).respond none (.invalidAccessWidth port d.size))
      | .ignore => .next (s.respond none (.invalidAccessWidth port d.size))
  else .refused .notAttached

/-- OpRead of an unmapped port: 0x00, no state changes (R144). -/
def opReadNone (s : State) : Byte × State := (0x00, s)

/-- OpWrite of an unmapped port: no state changes (R145). -/
def opWriteNone (_ : Byte) (s : State) : State := s

/-- IN.NONE (R144). -/
def execInNone (port : Port) (size : IoSize) (s : State) : Result := ioRead port opReadNone size s

/-- OUT.NONE (R145). -/
def execOutNone (port : Port) (d : IoData) (s : State) : Result := ioWrite port opWriteNone d s

end Sys2Proof.Machine
end

