-- ==== Sys2Proof/Machine/Attribute.lean ====
section
/-! DEFINITION. The Attribute Controller: the combined port 0x3C0, the data port 0x3C1 and the write masks
(`42_attribute.md` R170 to R176). -/

namespace Sys2Proof.Machine

/-- AttrMask (R171; the table of `10_state.md` R35). -/
def attrMask (i : BitVec 5) : Byte :=
  if i ≤ 0x0F#5 then 0x3F
  else if i = 0x10#5 then 0xEF
  else if i = 0x11#5 then 0xFF
  else if i = 0x12#5 then 0x3F
  else if i = 0x13#5 then 0x0F
  else if i = 0x14#5 then 0x0F
  else 0xFF

/-- `attr.index & 0x1F`, the register that the data phase and port 0x3C1 reach (R34, R36). -/
def AttributeLatch.selected (a : AttributeLatch) : BitVec 5 := a.index.setWidth 5

theorem AttributeLatch.selected_lt (a : AttributeLatch) : a.selected.toNat < 256 :=
  Nat.lt_trans a.selected.isLt (by decide)

/-- The byte of the selected register. -/
def AttributeLatch.readData (a : AttributeLatch) : Byte := a.data[a.selected.toNat]'a.selected_lt

/-- The index phase of a 0x3C0 write: the low 6 bits become the index (R172). -/
def AttributeLatch.writeIndex (a : AttributeLatch) (v : Byte) : AttributeLatch := { a with index := v &&& 0x3F }

/-- The data phase of a 0x3C0 write: the masked byte goes to the selected register (R172). -/
def AttributeLatch.writeData (a : AttributeLatch) (v : Byte) : AttributeLatch :=
  { a with data := a.data.set a.selected.toNat (v &&& attrMask a.selected) a.selected_lt }

/-- OpWrite of port 0x3C0 (R172): the index phase in AwaitIndex, the data phase in AwaitData; either toggles the
flip-flop. -/
def opOutAttr (v : Byte) (s : State) : State :=
  if s.attr.flip then { s with attr := (s.attr.writeData v).toggle }
  else { s with attr := (s.attr.writeIndex v).toggle }

/-- OpRead of port 0x3C0 (R173): the index in AwaitIndex, 0x00 in AwaitData. -/
def opInAttr (s : State) : Byte × State := (if s.attr.flip then 0x00 else s.attr.index, s)

/-- OpRead of port 0x3C1 (R174): the selected register, in both flip-flop states. -/
def opInAttrd (s : State) : Byte × State := (s.attr.readData, s)

/-- OpWrite of port 0x3C1 (R175): no state change. -/
def opOutAttrd (_ : Byte) (s : State) : State := s

/-- IN.ATTR (R173). -/
def execInAttr (size : IoSize) (s : State) : Result := ioRead 0x3C0 opInAttr size s

/-- OUT.ATTR (R172). -/
def execOutAttr (d : IoData) (s : State) : Result := ioWrite 0x3C0 opOutAttr d s

/-- IN.ATTRD (R174). -/
def execInAttrd (size : IoSize) (s : State) : Result := ioRead 0x3C1 opInAttrd size s

/-- OUT.ATTRD (R175). -/
def execOutAttrd (d : IoData) (s : State) : Result := ioWrite 0x3C1 opOutAttrd d s

end Sys2Proof.Machine
end

