-- ==== Sys2Proof/Machine/Dac.lean ====
section
/-! DEFINITION. The DAC palette: the index ports 0x3C7 and 0x3C8 and the data port 0x3C9 with its shared sub-index
(`43_dac.md` R186 to R191). -/

namespace Sys2Proof.Machine

/-- Entry e of the palette (`10_state.md` R37). -/
def DacPalette.entry (d : DacPalette) (e : Byte) : Vector Byte 3 := d.palette[e.toNat]'e.isLt

/-- Set the read index (R186): `writeIndex` and `pending` are kept. -/
def DacPalette.setReadIndex (d : DacPalette) (v : Byte) : DacPalette :=
  { d with readIndex := v, subIndex := 0, dacState := dacStateRead }

/-- Set the write index (R188): `readIndex` and `pending` are kept. -/
def DacPalette.setWriteIndex (d : DacPalette) (v : Byte) : DacPalette :=
  { d with writeIndex := v, subIndex := 0, dacState := dacStateWrite }

/-- Put one component, masked to 6 bits, into `pending` (R190). -/
def DacPalette.putPending (d : DacPalette) (v : Byte) : DacPalette :=
  { d with pending := d.pending.set d.subIndex (v &&& 0x3F) }

/-- Commit `pending` to the entry at the write index, which then advances and wraps (R190). -/
def DacPalette.commit (d : DacPalette) : DacPalette :=
  { d with palette := d.palette.set d.writeIndex.toNat d.pending d.writeIndex.isLt, writeIndex := d.writeIndex + 1 }

/-- Advance the shared sub-index (R193). -/
def DacPalette.advance (d : DacPalette) : DacPalette := { d with subIndex := nextSubIndex d.subIndex }

/-- A write of port 0x3C9 (R190): the third component commits the triplet. -/
def DacPalette.writeComponent (d : DacPalette) (v : Byte) : DacPalette :=
  if d.subIndex = 2 then (d.putPending v).commit.advance else (d.putPending v).advance

/-- The component a read of port 0x3C9 returns (R191): from the palette, never from `pending`. -/
def DacPalette.component (d : DacPalette) : Byte := (d.entry d.readIndex)[d.subIndex]

/-- What a read of port 0x3C9 leaves (R191): the third component moves the read index on, and it wraps. -/
def DacPalette.afterRead (d : DacPalette) : DacPalette :=
  if d.subIndex = 2 then { d.advance with readIndex := d.readIndex + 1 } else d.advance

/-- OpWrite of port 0x3C7 (R186). -/
def opOutDacri (v : Byte) (s : State) : State := { s with dac := s.dac.setReadIndex v }

/-- OpRead of port 0x3C7 (R187). -/
def opInDacri (s : State) : Byte × State := (s.dac.readIndex, s)

/-- OpWrite of port 0x3C8 (R188). -/
def opOutDacwi (v : Byte) (s : State) : State := { s with dac := s.dac.setWriteIndex v }

/-- OpRead of port 0x3C8 (R189). -/
def opInDacwi (s : State) : Byte × State := (s.dac.writeIndex, s)

/-- OpWrite of port 0x3C9 (R190). -/
def opOutDacd (v : Byte) (s : State) : State := { s with dac := s.dac.writeComponent v }

/-- OpRead of port 0x3C9 (R191). -/
def opInDacd (s : State) : Byte × State := (s.dac.component, { s with dac := s.dac.afterRead })

/-- IN.DACRI (R187). -/
def execInDacri (size : IoSize) (s : State) : Result := ioRead 0x3C7 opInDacri size s

/-- OUT.DACRI (R186). -/
def execOutDacri (d : IoData) (s : State) : Result := ioWrite 0x3C7 opOutDacri d s

/-- IN.DACWI (R189). -/
def execInDacwi (size : IoSize) (s : State) : Result := ioRead 0x3C8 opInDacwi size s

/-- OUT.DACWI (R188). -/
def execOutDacwi (d : IoData) (s : State) : Result := ioWrite 0x3C8 opOutDacwi d s

/-- IN.DACD (R191). -/
def execInDacd (size : IoSize) (s : State) : Result := ioRead 0x3C9 opInDacd size s

/-- OUT.DACD (R190). -/
def execOutDacd (d : IoData) (s : State) : Result := ioWrite 0x3C9 opOutDacd d s

end Sys2Proof.Machine
end

