-- ==== Sys2Proof/Machine/Lifecycle.lean ====
section
/-! DEFINITION. The host's requests: attach, detach and the diagnostic read (`47_host.md` R260 to R263). -/

namespace Sys2Proof.Machine

/-- HOST.ATTACH (R260, R261): the block's only reset (R330). `ok` is the host's draw ATTACH_OK; when it is false the
block stays detached and the response says ConfigurationError. -/
def execHostAttach (base length : BitVec 32) (ok : Bool) (s : State) : Result :=
  if s.attached then .refused .alreadyAttached
  else if ok then .next ((s.attachReset base length).respond none .ok)
  else .next (s.respond none .configurationError)

/-- HOST.DETACH (R262): always succeeds; while detached it changes nothing. -/
def execHostDetach (s : State) : Result :=
  if s.attached then .next (s.discard.respond none .ok) else .next (s.respond none .ok)

/-- HOST.DIAG (R263): the DAC state marker. -/
def execHostDiag (s : State) : Result :=
  if s.attached then .next (s.respond (some (.diag s.dac.dacState)) .ok) else .refused .notAttached

end Sys2Proof.Machine
end

