-- ==== Sys2Proof/Machine/Misc.lean ====
section
/-! DEFINITION. The misc output, feature, status and enable ports (`44_misc.md` R200 to R209). -/

namespace Sys2Proof.Machine

/-- OpWrite of port 0x3C2 (R200): bit 4 is forced to 0. -/
def opOutMisc (v : Byte) (s : State) : State := { s with misc := { s.misc with output := v &&& 0xEF } }

/-- OpRead of port 0x3C2 (R201): input status 0. -/
def opInSt0 (s : State) : Byte × State := (s.misc.status0, s)

/-- OpRead of port 0x3CC (R202). -/
def opInMiscr (s : State) : Byte × State := (s.misc.output, s)

/-- OpWrite of port 0x3CC (R203): no state change. -/
def opOutMiscr (_ : Byte) (s : State) : State := s

/-- OpRead of port 0x3CA (R204). -/
def opInFeatr (s : State) : Byte × State := (s.misc.feature, s)

/-- OpWrite of port 0x3CA (R205): no state change. -/
def opOutFeatr (_ : Byte) (s : State) : State := s

/-- OpRead of ports 0x3BA and 0x3DA (R206): input status 1, and the attribute flip-flop goes to AwaitIndex. -/
def opInSt1 (s : State) : Byte × State := (s.misc.status1, { s with attr := s.attr.awaitIndex })

/-- OpWrite of ports 0x3BA and 0x3DA (R207): feature control, unmasked. -/
def opOutFeat (v : Byte) (s : State) : State := { s with misc := { s.misc with feature := v } }

/-- OpRead of port 0x3C3 (R208): the port has no storage. -/
def opInEna (s : State) : Byte × State := (0x00, s)

/-- OpWrite of port 0x3C3 (R209): no state change. -/
def opOutEna (_ : Byte) (s : State) : State := s

/-- IN.ST0 (R201). -/
def execInSt0 (size : IoSize) (s : State) : Result := ioRead 0x3C2 opInSt0 size s

/-- OUT.MISC (R200). -/
def execOutMisc (d : IoData) (s : State) : Result := ioWrite 0x3C2 opOutMisc d s

/-- IN.MISCR (R202). -/
def execInMiscr (size : IoSize) (s : State) : Result := ioRead 0x3CC opInMiscr size s

/-- OUT.MISCR (R203). -/
def execOutMiscr (d : IoData) (s : State) : Result := ioWrite 0x3CC opOutMiscr d s

/-- IN.FEATR (R204). -/
def execInFeatr (size : IoSize) (s : State) : Result := ioRead 0x3CA opInFeatr size s

/-- OUT.FEATR (R205). -/
def execOutFeatr (d : IoData) (s : State) : Result := ioWrite 0x3CA opOutFeatr d s

/-- IN.ST1 at 0x3BA (R206). -/
def execInSt1Mono (size : IoSize) (s : State) : Result := ioRead 0x3BA opInSt1 size s

/-- IN.ST1 at 0x3DA (R206). -/
def execInSt1Colour (size : IoSize) (s : State) : Result := ioRead 0x3DA opInSt1 size s

/-- OUT.FEAT at 0x3BA (R207). -/
def execOutFeatMono (d : IoData) (s : State) : Result := ioWrite 0x3BA opOutFeat d s

/-- OUT.FEAT at 0x3DA (R207). -/
def execOutFeatColour (d : IoData) (s : State) : Result := ioWrite 0x3DA opOutFeat d s

/-- IN.ENA (R208). -/
def execInEna (size : IoSize) (s : State) : Result := ioRead 0x3C3 opInEna size s

/-- OUT.ENA (R209). -/
def execOutEna (d : IoData) (s : State) : Result := ioWrite 0x3C3 opOutEna d s

end Sys2Proof.Machine
end

