-- ==== Sys2Proof/Machine/AddressDecode.lean ====
section
/-! DEFINITION. The planar memory address decoder (`45_address_decode.md` R220 to R236) over the rebasing of
`20_memory.md` R83, R84. It reads the state afresh for every byte and changes nothing (R220, R56). -/

namespace Sys2Proof.Machine

/-- A plane-byte access of a write decode: plane, in-plane offset, resulting byte (R220). -/
structure PlaneByte where
  plane  : Plane
  offset : Nat
  value  : Byte
  deriving DecidableEq, Repr

/-- A write decode: the plane bytes to commit, and how many free values it took (0 unless `draw()` was evaluated). -/
structure WriteDecode where
  bytes : List PlaneByte
  draws : Nat
  deriving DecidableEq, Repr

/-- The base and size of the selected memory map (`20_memory.md` R83). -/
def State.mapRegion (s : State) : Nat × Nat :=
  if s.memoryMapMode = 0#2 then (0xA0000, s.cfg.windowLen.toNat)
  else if s.memoryMapMode = 1#2 then (0xA0000, 0x10000)
  else if s.memoryMapMode = 2#2 then (0xB0000, 0x8000)
  else (0xB8000, 0x8000)

/-- Rebase (`20_memory.md` R84): exact, no wrap-around; none when the byte is outside the selected map. -/
def State.rebase (s : State) (off : Nat) : Option Nat :=
  let phys := s.cfg.windowBase.toNat + off
  if phys < s.mapRegion.1 ∨ s.mapRegion.2 ≤ phys - s.mapRegion.1 then none
  else some (phys - s.mapRegion.1)

/-- The plane of a rebased address in chain-4 mode: its low 2 bits (R223). -/
def chain4Plane (r : Nat) : Plane := Fin.ofNat 4 (r % 4)

/-- The plane of a rebased address in odd/even mode: bit 1 of the read map select, then bit 0 of the address (R224). -/
def State.oddEvenPlane (s : State) (r : Nat) : Plane :=
  Fin.ofNat 4 ((s.readMapSelect &&& 0x02).toNat ||| (r % 2))

/-- The plane of a read in planar mode: bits 1:0 of the read map select (R235). -/
def State.planarReadPlane (s : State) : Plane := Fin.ofNat 4 (s.readMapSelect &&& 0x03).toNat

/-- The raw store of chain-4 and odd/even: one byte if the plane is write-enabled, else nothing (R223, R224). -/
def State.gatedByte (s : State) (p : Plane) (r : Nat) (v : Byte) : List PlaneByte :=
  if s.planeEnabled p then [{ plane := p, offset := r, value := v }] else []

/-- One byte for every write-enabled plane, at one offset. -/
def State.enabledBytes (s : State) (r : Nat) (f : Plane → Byte) : List PlaneByte :=
  (([0, 1, 2, 3] : List Plane).filter fun p => s.planeEnabled p).map fun p =>
    { plane := p, offset := r, value := f p }

/-- SrMux: BITWISE (R226) or PER_PLANE (R227). -/
def State.srMux (s : State) (p : Plane) (v : Byte) : Byte :=
  match s.params.setReset with
  | .bitwise  => (s.enableSetReset &&& s.setReset) ||| (~~~s.enableSetReset &&& v)
  | .perPlane =>
    if s.enableSetReset.getLsbD p then (if s.setReset.getLsbD p then 0xFF else 0x00) else v

/-- A byte merged under a mask: the masked bits of `new`, the other bits of `old`. -/
def maskMerge (mask new old : Byte) : Byte := (new &&& mask) ||| (old &&& ~~~mask)

/-- Mode0Write (R229): the Set/Reset mux, then the bit mask over the plane's existing byte (R228). -/
def State.mode0Bytes (s : State) (r : Nat) (v : Byte) : List PlaneByte :=
  s.enabledBytes r fun p => maskMerge s.bitMask (s.srMux p v) (s.planeRead p r)

/-- ROR within 8 bits (R231). -/
def rotateByte (v : Byte) (n : BitVec 3) : Byte := (v >>> n.toNat) ||| (v <<< (8 - n.toNat))

/-- ALU of the function select: replace, AND, OR, XOR with the latch (R231). -/
def State.alu (s : State) (x l : Byte) : Byte :=
  if s.functionSelect = 0#2 then x
  else if s.functionSelect = 1#2 then x &&& l
  else if s.functionSelect = 2#2 then x ||| l
  else x ^^^ l

/-- A byte with every bit equal to b. -/
def spread (b : Bool) : Byte := if b then 0xFF else 0x00

/-- The byte a write mode 1, 2 or 3 stores in plane p under VGA_GK (R231). -/
def State.vgaGkByte (s : State) (v : Byte) (p : Plane) : Byte :=
  if s.writeMode = 1#2 then s.latch[p]
  else if s.writeMode = 2#2 then maskMerge s.bitMask (s.alu (spread (v.getLsbD p)) s.latch[p]) s.latch[p]
  else
    maskMerge (rotateByte v s.rotateCount &&& s.bitMask) (s.alu (spread (s.setReset.getLsbD p)) s.latch[p]) s.latch[p]

/-- Mode123Write under the three policies (R230, R231). Under DRAW each enabled plane byte is a free value. -/
def State.mode123Write (s : State) (r : Nat) (v : Byte) : Except Refusal WriteDecode :=
  match s.params.writeMode123 with
  | .refuse => .error .writeModeUnimplemented
  | .draw   => .ok { bytes := s.enabledBytes r fun p => Config.drawnByte s.draws p, draws := 1 }
  | .vgaGk  => .ok { bytes := s.enabledBytes r fun p => s.vgaGkByte v p, draws := 0 }

/-- PlanarWrite (R225). -/
def State.planarWrite (s : State) (r : Nat) (v : Byte) : Except Refusal WriteDecode :=
  if s.writeMode = 0#2 then .ok { bytes := s.mode0Bytes r v, draws := 0 } else s.mode123Write r v

/-- DecodeWrite (R222): out of the map nothing; else chain-4 before odd/even before planar. -/
def State.decodeWrite (s : State) (off : Nat) (v : Byte) : Except Refusal WriteDecode :=
  match s.rebase off with
  | none   => .ok { bytes := [], draws := 0 }
  | some r =>
    if s.chain4 then .ok { bytes := s.gatedByte (chain4Plane r) r v, draws := 0 }
    else if s.oddEven then .ok { bytes := s.gatedByte (s.oddEvenPlane r) r v, draws := 0 }
    else s.planarWrite r v

/-- DecodeRead (R233): the plane and in-plane offset, or none out of the map. `map_mask` does not gate reads. -/
def State.decodeRead (s : State) (off : Nat) : Option (Plane × Nat) :=
  match s.rebase off with
  | none   => none
  | some r =>
    if s.chain4 then some (chain4Plane r, r)
    else if s.oddEven then some (s.oddEvenPlane r, r)
    else some (s.planarReadPlane, r)

end Sys2Proof.Machine
end

