-- ==== Sys2Proof/Machine/Mmio.lean ====
section
/-! DEFINITION. MMIO window reads and writes, byte by byte (`46_mmio.md` R250 to R255). -/

namespace Sys2Proof.Machine

/-- Commit the plane bytes of one write decode (R253). They name distinct planes (R232), so their order does not show. -/
def State.commitBytes (s : State) : List PlaneByte → State
  | [] => s
  | b :: bs => (s.planeWrite b.plane b.offset b.value).commitBytes bs

/-- MmioByteWrite (R253): every byte is computed from the state before any is written. -/
def State.mmioByteWrite (s : State) (a : Nat) (v : Byte) : Except Refusal State :=
  match s.decodeWrite a v with
  | .error why => .error why
  | .ok w => .ok { s.commitBytes w.bytes with draws := s.draws + w.draws }

/-- Load the four latches from an in-plane offset (R236, R254). -/
def State.loadLatches (s : State) (o : Nat) : State :=
  { s with latch := Vector.ofFn fun q => s.planeRead q o }

/-- MmioByteRead (R254): out of the map 0x00 and no latch changes. -/
def State.mmioByteRead (s : State) (a : Nat) : Byte × State :=
  match s.decodeRead a with
  | none => (0x00, s)
  | some (p, o) => (s.planeRead p o, s.loadLatches o)

/-- The bytes of a write in increasing k (R250, R252), with the first out-of-window offset, if any (R93, R301). -/
def State.mmioWriteBytes (s : State) (a : Nat) : List Byte → Except Refusal (State × Option Nat)
  | [] => .ok (s, none)
  | v :: vs =>
    if s.cfg.windowLen.toNat ≤ a then
      match s.mmioWriteBytes (a + 1) vs with
      | .error why  => .error why
      | .ok (t, _)  => .ok (t, some a)
    else
      match s.mmioByteWrite a v with
      | .error why => .error why
      | .ok t      => t.mmioWriteBytes (a + 1) vs

/-- The bytes of a read in increasing k (R251, R252), with the first out-of-window offset, if any. -/
def State.mmioReadBytes (s : State) (a : Nat) : Nat → List Byte × Option Nat × State
  | 0 => ([], none, s)
  | n + 1 =>
    if s.cfg.windowLen.toNat ≤ a then
      let r := s.mmioReadBytes (a + 1) n
      (0x00 :: r.1, some a, r.2.2)
    else
      let b := s.mmioByteRead a
      let r := b.2.mmioReadBytes (a + 1) n
      (b.1 :: r.1, r.2.1, r.2.2)

/-- The status of an MMIO request: OutOfRangeAddress with the first such offset, or OK (R301, R304). -/
def mmioStatus : Option Nat → Status
  | none   => .ok
  | some a => .outOfRangeAddress a

/-- MMIO.W (R250). If any byte is refused the whole request is. -/
def execMmioW (off : Offset) (bytes : List Byte) (s : State) : Result :=
  if s.attached then
    match s.mmioWriteBytes off.toNat bytes with
    | .error why => .refused why
    | .ok (t, first) => .next (t.respond none (mmioStatus first))
  else .refused .notAttached

/-- MMIO.R (R251). A read is never refused for its write mode. -/
def execMmioR (off : Offset) (len : Nat) (s : State) : Result :=
  if s.attached then
    let r := s.mmioReadBytes off.toNat len
    .next (r.2.2.respond (some (.mmio r.1)) (mmioStatus r.2.1))
  else .refused .notAttached

end Sys2Proof.Machine
end

