-- ==== Sys2Proof/Machine/RegBanks.lean ====
section
/-! DEFINITION. The index and data ports of the CRT Controller, the Sequencer and the Graphics Controller
(`41_regbanks.md` R154 to R165). -/

namespace Sys2Proof.Machine

/-- OpRead of the CRT index ports (R154). -/
def opInCrti (s : State) : Byte × State := (s.crt.readIndex, s)

/-- OpWrite of the CRT index ports (R155). -/
def opOutCrti (v : Byte) (s : State) : State := { s with crt := s.crt.writeIndex v }

/-- OpRead of the CRT data ports (R156). -/
def opInCrtd (s : State) : Byte × State := (s.crt.readData, s)

/-- OpWrite of the CRT data ports (R157): no register is write-protected. -/
def opOutCrtd (v : Byte) (s : State) : State := { s with crt := s.crt.writeData v }

/-- OpRead of the Sequencer index port (R158). -/
def opInSeqi (s : State) : Byte × State := (s.seq.readIndex, s)

/-- OpWrite of the Sequencer index port (R159). -/
def opOutSeqi (v : Byte) (s : State) : State := { s with seq := s.seq.writeIndex v }

/-- OpRead of the Sequencer data port (R160). -/
def opInSeqd (s : State) : Byte × State := (s.seq.readData, s)

/-- OpWrite of the Sequencer data port (R161). -/
def opOutSeqd (v : Byte) (s : State) : State := { s with seq := s.seq.writeData v }

/-- OpRead of the Graphics index port (R162). -/
def opInGri (s : State) : Byte × State := (s.gr.readIndex, s)

/-- OpWrite of the Graphics index port (R163). -/
def opOutGri (v : Byte) (s : State) : State := { s with gr := s.gr.writeIndex v }

/-- OpRead of the Graphics data port (R164). -/
def opInGrd (s : State) : Byte × State := (s.gr.readData, s)

/-- OpWrite of the Graphics data port (R165): nothing else changes, in particular nothing of the attribute latch. -/
def opOutGrd (v : Byte) (s : State) : State := { s with gr := s.gr.writeData v }

/-- IN.CRTI at 0x3B4 (R154). -/
def execInCrtiMono (size : IoSize) (s : State) : Result := ioRead 0x3B4 opInCrti size s

/-- IN.CRTI at 0x3D4 (R154). -/
def execInCrtiColour (size : IoSize) (s : State) : Result := ioRead 0x3D4 opInCrti size s

/-- OUT.CRTI at 0x3B4 (R155). -/
def execOutCrtiMono (d : IoData) (s : State) : Result := ioWrite 0x3B4 opOutCrti d s

/-- OUT.CRTI at 0x3D4 (R155). -/
def execOutCrtiColour (d : IoData) (s : State) : Result := ioWrite 0x3D4 opOutCrti d s

/-- IN.CRTD at 0x3B5 (R156). -/
def execInCrtdMono (size : IoSize) (s : State) : Result := ioRead 0x3B5 opInCrtd size s

/-- IN.CRTD at 0x3D5 (R156). -/
def execInCrtdColour (size : IoSize) (s : State) : Result := ioRead 0x3D5 opInCrtd size s

/-- OUT.CRTD at 0x3B5 (R157). -/
def execOutCrtdMono (d : IoData) (s : State) : Result := ioWrite 0x3B5 opOutCrtd d s

/-- OUT.CRTD at 0x3D5 (R157). -/
def execOutCrtdColour (d : IoData) (s : State) : Result := ioWrite 0x3D5 opOutCrtd d s

/-- IN.SEQI (R158). -/
def execInSeqi (size : IoSize) (s : State) : Result := ioRead 0x3C4 opInSeqi size s

/-- OUT.SEQI (R159). -/
def execOutSeqi (d : IoData) (s : State) : Result := ioWrite 0x3C4 opOutSeqi d s

/-- IN.SEQD (R160). -/
def execInSeqd (size : IoSize) (s : State) : Result := ioRead 0x3C5 opInSeqd size s

/-- OUT.SEQD (R161). -/
def execOutSeqd (d : IoData) (s : State) : Result := ioWrite 0x3C5 opOutSeqd d s

/-- IN.GRI (R162). -/
def execInGri (size : IoSize) (s : State) : Result := ioRead 0x3CE opInGri size s

/-- OUT.GRI (R163). -/
def execOutGri (d : IoData) (s : State) : Result := ioWrite 0x3CE opOutGri d s

/-- IN.GRD (R164). -/
def execInGrd (size : IoSize) (s : State) : Result := ioRead 0x3CF opInGrd size s

/-- OUT.GRD (R165). -/
def execOutGrd (d : IoData) (s : State) : Result := ioWrite 0x3CF opOutGrd d s

end Sys2Proof.Machine
end

