-- ==== Sys2Proof/Machine/Dispatch.lean ====
section
/-! DEFINITION. The dispatch from operations to their meanings: one arm per row of the opcode table, in its order. -/

namespace Sys2Proof.Machine

/-- The meaning of an operation (`30_encoding.md` R120, R124): exactly one per operation, no cascade (R140). -/
def exec (i : Instr) (s : State) : Host.Outcome State Fault Refusal :=
  match i with
  | .inCrtiMono size => Sys2Proof.Machine.execInCrtiMono size s
  | .inCrtiColour size => Sys2Proof.Machine.execInCrtiColour size s
  | .outCrtiMono d => Sys2Proof.Machine.execOutCrtiMono d s
  | .outCrtiColour d => Sys2Proof.Machine.execOutCrtiColour d s
  | .inCrtdMono size => Sys2Proof.Machine.execInCrtdMono size s
  | .inCrtdColour size => Sys2Proof.Machine.execInCrtdColour size s
  | .outCrtdMono d => Sys2Proof.Machine.execOutCrtdMono d s
  | .outCrtdColour d => Sys2Proof.Machine.execOutCrtdColour d s
  | .inSeqi size => Sys2Proof.Machine.execInSeqi size s
  | .outSeqi d => Sys2Proof.Machine.execOutSeqi d s
  | .inSeqd size => Sys2Proof.Machine.execInSeqd size s
  | .outSeqd d => Sys2Proof.Machine.execOutSeqd d s
  | .inGri size => Sys2Proof.Machine.execInGri size s
  | .outGri d => Sys2Proof.Machine.execOutGri d s
  | .inGrd size => Sys2Proof.Machine.execInGrd size s
  | .outGrd d => Sys2Proof.Machine.execOutGrd d s
  | .inAttr size => Sys2Proof.Machine.execInAttr size s
  | .outAttr d => Sys2Proof.Machine.execOutAttr d s
  | .inAttrd size => Sys2Proof.Machine.execInAttrd size s
  | .outAttrd d => Sys2Proof.Machine.execOutAttrd d s
  | .inDacri size => Sys2Proof.Machine.execInDacri size s
  | .outDacri d => Sys2Proof.Machine.execOutDacri d s
  | .inDacwi size => Sys2Proof.Machine.execInDacwi size s
  | .outDacwi d => Sys2Proof.Machine.execOutDacwi d s
  | .inDacd size => Sys2Proof.Machine.execInDacd size s
  | .outDacd d => Sys2Proof.Machine.execOutDacd d s
  | .inSt0 size => Sys2Proof.Machine.execInSt0 size s
  | .outMisc d => Sys2Proof.Machine.execOutMisc d s
  | .inMiscr size => Sys2Proof.Machine.execInMiscr size s
  | .outMiscr d => Sys2Proof.Machine.execOutMiscr d s
  | .inFeatr size => Sys2Proof.Machine.execInFeatr size s
  | .outFeatr d => Sys2Proof.Machine.execOutFeatr d s
  | .inSt1Mono size => Sys2Proof.Machine.execInSt1Mono size s
  | .inSt1Colour size => Sys2Proof.Machine.execInSt1Colour size s
  | .outFeatMono d => Sys2Proof.Machine.execOutFeatMono d s
  | .outFeatColour d => Sys2Proof.Machine.execOutFeatColour d s
  | .inEna size => Sys2Proof.Machine.execInEna size s
  | .outEna d => Sys2Proof.Machine.execOutEna d s
  | .inNone port size => Sys2Proof.Machine.execInNone port size s
  | .outNone port d => Sys2Proof.Machine.execOutNone port d s
  | .mmioW off bytes => Sys2Proof.Machine.execMmioW off bytes s
  | .mmioR off len => Sys2Proof.Machine.execMmioR off len s
  | .hostAttach base length ok => Sys2Proof.Machine.execHostAttach base length ok s
  | .hostDetach => Sys2Proof.Machine.execHostDetach s
  | .hostDiag => Sys2Proof.Machine.execHostDiag s

end Sys2Proof.Machine
end

