-- ==== Sys2Proof/Machine/Pseudo.lean ====
section
/-! DEFINITION. The request syntax of `30_encoding.md` R126 and the pseudo-instructions of R127 to R130, as the request
records they stand for. -/

namespace Sys2Proof.Machine

/-- `IN(port)` (R126). -/
def reqIn (port : Port) : Request := encodeIn port .byte

/-- `INW(port)` (R126). -/
def reqInW (port : Port) : Request := encodeIn port .word

/-- `IND(port)` (R126). -/
def reqInD (port : Port) : Request := encodeIn port .dword

/-- `OUT(port, v)` (R126). -/
def reqOut (port : Port) (v : Byte) : Request := encodeOut port (.b8 v)

/-- `OUTW(port, v)` (R126). -/
def reqOutW (port : Port) (v : BitVec 16) : Request := encodeOut port (.b16 v)

/-- `OUTD(port, v)` (R126). -/
def reqOutD (port : Port) (v : BitVec 32) : Request := encodeOut port (.b32 v)

/-- `MMIOR(off, len)` (R126). -/
def reqMmioR (off : Offset) (len : Nat) : Request := encode (.mmioR off len)

/-- `MMIOW(off, [b0, b1, …])` (R126). -/
def reqMmioW (off : Offset) (bytes : List Byte) : Request := encode (.mmioW off bytes)

/-- `ATTACH(base, length)` (R126) with the host's draw ATTACH_OK. -/
def reqAttach (base length : BitVec 32) (ok : Bool) : Request := encode (.hostAttach base length ok)

/-- `DETACH` (R126). -/
def reqDetach : Request := encode .hostDetach

/-- `DIAG` (R126). -/
def reqDiag : Request := encode .hostDiag

/-- `SETREG(ip, i, v)` (R127). -/
def setReg (ip : Port) (i v : Byte) : List Request := [reqOut ip i, reqOut (ip + 1) v]

/-- `ATTRSET(i, v)` (R128). -/
def attrSet (i v : Byte) : List Request := [reqIn 0x3DA, reqOut 0x3C0 i, reqOut 0x3C0 v]

/-- `DACSET(e, r, g, b)` (R129). -/
def dacSet (e r g b : Byte) : List Request := [reqOut 0x3C8 e, reqOut 0x3C9 r, reqOut 0x3C9 g, reqOut 0x3C9 b]

/-- `DACGET(e)` (R130). -/
def dacGet (e : Byte) : List Request := [reqOut 0x3C7 e, reqIn 0x3C9, reqIn 0x3C9, reqIn 0x3C9]

/-- These requests, serialized, ahead of those already pending (`20_memory.md` R96). -/
def State.enqueue (s : State) (rs : List Request) : State :=
  { s with requests := rs.map (fun r => { req := r }) ++ s.requests }

end Sys2Proof.Machine
end

