-- ==== Sys2Proof/Machine/Step.lean ====
section
/-! DEFINITION. One step: take the next pending request and run it (`00_scope.md` R16). -/

namespace Sys2Proof.Machine

/-- One step. With no request pending the block waits (`70_reset_and_hazards.md` R332, `60_exceptions.md` R310). A
reserved word is refused first (R307); the rest of the order of checks is each operation's own. -/
def step (s : State) : Host.Outcome State Fault Refusal :=
  match s.fetch with
  | .idle         => .next s
  | .reserved why => .refused (.reservedEncoding why)
  | .overlap      => .refused .concurrent
  | .run i rest   => exec i (s.accept rest)

/-- The state with the request of a table word (every other bit and every data operand zero) as the next pending
request (log entry 14). -/
def State.withFetchWord (s : State) (nbits w : Nat) : State := s.enqueue [tableRequest nbits w]

end Sys2Proof.Machine
end

