-- ==== Sys2Proof/Safety.lean ====
section
/-! DEFINITION. The words that claims about the machine use: the I/O operations with their ports, when an I/O access has
its effect and what its status is, and the invariant of the block. -/

namespace Sys2Proof

/-- The port, the access size, and whether it is a write, of an I/O operation; none for MMIO and host operations. -/
def Instr.ioAccess : Instr → Option (Port × IoSize × Bool)
  | .inCrtiMono z => some (0x3B4, z, false)
  | .inCrtiColour z => some (0x3D4, z, false)
  | .outCrtiMono d => some (0x3B4, d.size, true)
  | .outCrtiColour d => some (0x3D4, d.size, true)
  | .inCrtdMono z => some (0x3B5, z, false)
  | .inCrtdColour z => some (0x3D5, z, false)
  | .outCrtdMono d => some (0x3B5, d.size, true)
  | .outCrtdColour d => some (0x3D5, d.size, true)
  | .inSeqi z => some (0x3C4, z, false)
  | .outSeqi d => some (0x3C4, d.size, true)
  | .inSeqd z => some (0x3C5, z, false)
  | .outSeqd d => some (0x3C5, d.size, true)
  | .inGri z => some (0x3CE, z, false)
  | .outGri d => some (0x3CE, d.size, true)
  | .inGrd z => some (0x3CF, z, false)
  | .outGrd d => some (0x3CF, d.size, true)
  | .inAttr z => some (0x3C0, z, false)
  | .outAttr d => some (0x3C0, d.size, true)
  | .inAttrd z => some (0x3C1, z, false)
  | .outAttrd d => some (0x3C1, d.size, true)
  | .inDacri z => some (0x3C7, z, false)
  | .outDacri d => some (0x3C7, d.size, true)
  | .inDacwi z => some (0x3C8, z, false)
  | .outDacwi d => some (0x3C8, d.size, true)
  | .inDacd z => some (0x3C9, z, false)
  | .outDacd d => some (0x3C9, d.size, true)
  | .inSt0 z => some (0x3C2, z, false)
  | .outMisc d => some (0x3C2, d.size, true)
  | .inMiscr z => some (0x3CC, z, false)
  | .outMiscr d => some (0x3CC, d.size, true)
  | .inFeatr z => some (0x3CA, z, false)
  | .outFeatr d => some (0x3CA, d.size, true)
  | .inSt1Mono z => some (0x3BA, z, false)
  | .inSt1Colour z => some (0x3DA, z, false)
  | .outFeatMono d => some (0x3BA, d.size, true)
  | .outFeatColour d => some (0x3DA, d.size, true)
  | .inEna z => some (0x3C3, z, false)
  | .outEna d => some (0x3C3, d.size, true)
  | .inNone p z => some (p, z, false)
  | .outNone p d => some (p, d.size, true)
  | .mmioW _ _ | .mmioR _ _ | .hostAttach _ _ _ | .hostDetach | .hostDiag => none

/-- The same I/O operation as a one-byte access: a read of size 1, or a write of the low byte (`40_io_dispatch.md` R140,
R142). Other operations are themselves. -/
def Instr.narrow : Instr → Instr
  | .inCrtiMono _ => .inCrtiMono .byte
  | .inCrtiColour _ => .inCrtiColour .byte
  | .outCrtiMono d => .outCrtiMono (.b8 (Machine.dataByte d))
  | .outCrtiColour d => .outCrtiColour (.b8 (Machine.dataByte d))
  | .inCrtdMono _ => .inCrtdMono .byte
  | .inCrtdColour _ => .inCrtdColour .byte
  | .outCrtdMono d => .outCrtdMono (.b8 (Machine.dataByte d))
  | .outCrtdColour d => .outCrtdColour (.b8 (Machine.dataByte d))
  | .inSeqi _ => .inSeqi .byte
  | .outSeqi d => .outSeqi (.b8 (Machine.dataByte d))
  | .inSeqd _ => .inSeqd .byte
  | .outSeqd d => .outSeqd (.b8 (Machine.dataByte d))
  | .inGri _ => .inGri .byte
  | .outGri d => .outGri (.b8 (Machine.dataByte d))
  | .inGrd _ => .inGrd .byte
  | .outGrd d => .outGrd (.b8 (Machine.dataByte d))
  | .inAttr _ => .inAttr .byte
  | .outAttr d => .outAttr (.b8 (Machine.dataByte d))
  | .inAttrd _ => .inAttrd .byte
  | .outAttrd d => .outAttrd (.b8 (Machine.dataByte d))
  | .inDacri _ => .inDacri .byte
  | .outDacri d => .outDacri (.b8 (Machine.dataByte d))
  | .inDacwi _ => .inDacwi .byte
  | .outDacwi d => .outDacwi (.b8 (Machine.dataByte d))
  | .inDacd _ => .inDacd .byte
  | .outDacd d => .outDacd (.b8 (Machine.dataByte d))
  | .inSt0 _ => .inSt0 .byte
  | .outMisc d => .outMisc (.b8 (Machine.dataByte d))
  | .inMiscr _ => .inMiscr .byte
  | .outMiscr d => .outMiscr (.b8 (Machine.dataByte d))
  | .inFeatr _ => .inFeatr .byte
  | .outFeatr d => .outFeatr (.b8 (Machine.dataByte d))
  | .inSt1Mono _ => .inSt1Mono .byte
  | .inSt1Colour _ => .inSt1Colour .byte
  | .outFeatMono d => .outFeatMono (.b8 (Machine.dataByte d))
  | .outFeatColour d => .outFeatColour (.b8 (Machine.dataByte d))
  | .inEna _ => .inEna .byte
  | .outEna d => .outEna (.b8 (Machine.dataByte d))
  | .inNone p _ => .inNone p .byte
  | .outNone p d => .outNone p (.b8 (Machine.dataByte d))
  | .mmioW off bytes => .mmioW off bytes
  | .mmioR off len => .mmioR off len
  | .hostAttach b l ok => .hostAttach b l ok
  | .hostDetach => .hostDetach
  | .hostDiag => .hostDiag

/-- The guest's operations: I/O and MMIO (`60_exceptions.md` R311). -/
def Instr.isGuest : Instr → Bool
  | .mmioW _ _ => true
  | .mmioR _ _ => true
  | i => i.ioAccess.isSome

/-- A reserved request word, as `30_encoding.md` R119 lists them. -/
def ReservedForm (w : Word) : Prop :=
  w.extractLsb' 30 2 = 3#2 ∨
  (w.extractLsb' 30 2 = 0#2 ∧ (w.extractLsb' 18 11 ≠ 0#11 ∨ w.extractLsb' 16 2 = 3#2)) ∨
  (w.extractLsb' 30 2 = 2#2 ∧
    (w.getLsbD 29 = true ∨ w.extractLsb' 8 21 ≠ 0#21 ∨
      (w.extractLsb' 0 8 ≠ 1#8 ∧ w.extractLsb' 0 8 ≠ 2#8 ∧ w.extractLsb' 0 8 ≠ 3#8)))

/-- These three words, of sizes 1, 2 and 4, are decoded as this IN operation (`30_encoding.md` R115, R116). -/
abbrev ReadWord (w : Word) (i : IoSize → Instr) : Prop :=
  decode { word := w } = .ok (i .byte) ∧ decode { word := w ||| 0x10000 } = .ok (i .word) ∧
  decode { word := w ||| 0x20000 } = .ok (i .dword)

/-- These three words, of sizes 1, 2 and 4, are decoded as this OUT operation with the low 8, 16 or 32 bits of the value
written (`30_encoding.md` R110, R115, R116). -/
abbrev WriteWord (w : Word) (i : IoData → Instr) : Prop :=
  ∀ v : BitVec 32,
    decode { word := w, wdata := v } = .ok (i (.b8 (v.setWidth 8))) ∧
    decode { word := w ||| 0x10000, wdata := v } = .ok (i (.b16 (v.setWidth 16))) ∧
    decode { word := w ||| 0x20000, wdata := v } = .ok (i (.b32 v))

namespace Machine

/-- An I/O access of this size has its operation's effect: it is one byte wide, or the policy is TRUNCATE (R140, R142,
R143). -/
abbrev IoRuns (s : State) (size : IoSize) : Prop := size = .byte ∨ s.params.wideIo = .truncate

/-- The status of an I/O request (R140, R301): OK for one byte, else InvalidAccessWidth with the port and the size. -/
def ioStatus (port : Port) (size : IoSize) : Status :=
  if size = .byte then .ok else .invalidAccessWidth port size

/-- The response of an I/O write. -/
def wrote (port : Port) (d : IoData) : Option Response := some { rdata := none, status := ioStatus port d.size }

/-- The response of an I/O read that returns byte v. -/
def gave (port : Port) (size : IoSize) (v : Byte) : Option Response :=
  some { rdata := some (.io (zextByte size v)), status := ioStatus port size }

/-- The response of a one-byte I/O read that returns v. -/
def gaveByte (v : Byte) : Option Response := some { rdata := some (.io (.b8 v)), status := .ok }

/-- `k` steps of the machine, as the host runs them. -/
def runSteps (k : Nat) (s : State) : Result := Host.Core.run Sys2Proof.core k s

/-- Write mode 1, 2 or 3 of a planar write, the one case a policy decides (`45_address_decode.md` R222, R225, R230). -/
abbrev PlanarMode123 (s : State) : Prop := s.chain4 = false ∧ s.oddEven = false ∧ s.writeMode ≠ 0#2

/-- Byte k of an MMIO request at `off` reaches the planes: it is in the window and in the selected map, and `r` is its
rebased address (`20_memory.md` R84, R93, R94). -/
abbrev Reaches (s : State) (off : Offset) (k r : Nat) : Prop :=
  off.toNat + k < s.cfg.windowLen.toNat ∧ s.rebase (off.toNat + k) = some r

/-- The status of an MMIO request of `len` bytes at `off`: the first byte offset at or beyond the window's end, if one of
its bytes lies there (`60_exceptions.md` R301, R304). -/
def rangeStatus (s : State) (off : Offset) (len : Nat) : Status :=
  if len = 0 ∨ off.toNat + len ≤ s.cfg.windowLen.toNat then .ok
  else .outOfRangeAddress (max off.toNat s.cfg.windowLen.toNat)

/-- The operation completes, responds OK, leaves the counter of free values at `n` and every plane byte as `f` says, and
changes nothing else. -/
def WritesPlanes (i : Instr) (s : State) (n : Nat) (f : Plane → Nat → Byte) : Prop :=
  ∃ ps, exec i s = .next { s with planes := ps, draws := n, response := some { rdata := none, status := .ok } } ∧
    ∀ q o, State.planeRead { s with planes := ps } q o = f q o

/-- The attribute latch keeps its shape: the index holds 6 bits, the slots no request reaches hold 0, and a register
holds no bit its mask clears (`10_state.md` R34, R35). -/
abbrev AttrInv (a : AttributeLatch) : Prop :=
  a.index &&& 0x3F = a.index ∧
  (∀ i : Fin 256, 0x20 ≤ i.val → a.data[i] = 0) ∧
  (∀ i : Fin 32, a.data[i.val] &&& attrMask (BitVec.ofFin i) = a.data[i.val])

/-- The DAC is a 6-bit DAC and its marker is 0 or 3 (`10_state.md` R37, R38). -/
abbrev DacInv (d : DacPalette) : Prop :=
  (∀ e : Fin 256, ∀ c : Fin 3, d.palette[e][c] ≤ 0x3F) ∧ (∀ c : Fin 3, d.pending[c] ≤ 0x3F) ∧
  (d.dacState = 0 ∨ d.dacState = 3)

/-- The status bytes hold 0x00 and output bit 4 is 0 (`10_state.md` R41, R42). -/
abbrev MiscInv (m : MiscRegisters) : Prop :=
  m.status0 = 0 ∧ m.status1 = 0 ∧ m.output.getLsbD 4 = false

/-- Every plane is in canonical form. -/
abbrev PlanesInv (ps : Vector Memory 4) : Prop := ∀ p : Fin 4, Memory.wf ps[p] = true

/-- The invariant of the block: the shapes above, for the planes and for INIT_PLANES, and a detached block holds nothing
(`10_state.md` R55; log entry 7). -/
structure Inv (s : State) : Prop where
  attr      : AttrInv s.attr
  dac       : DacInv s.dac
  misc      : MiscInv s.misc
  planes    : PlanesInv s.planes
  init      : PlanesInv s.params.initPlanes
  discarded : s.attached = false → s = s.discard

end Machine

end Sys2Proof
end

