-- ==== Sys2Proof/Certificates/Slice0/Obligations.lean ====
section
/-! DEFINITION. The statements about the block, for the provers. -/

section

open Sys2Proof Sys2Proof.Machine

/-! ### Encoding -/

/-- Decoding the request that spells an operation gives the operation back, with every operand (`30_encoding.md` R112 to
R120). -/
def Obligations.DecodeEncodeRoundTrip : Prop :=
  ∀ i : Instr, WellFormed i = true → decode (encode i) = .ok i

/-- R122: every word that is not reserved selects exactly one operation, and the "any other port" operations are selected
only at ports that no specific row lists. -/
def Obligations.ValidWordSelectsOneOperation : Prop :=
  ∀ r : Request, ¬ ReservedForm r.word →
    ∃ i, decode r = .ok i ∧ WellFormed i = true ∧ ∀ j, decode r = .ok j → j = i

/-- R119: exactly the reserved words spell no request, and a pending one is refused. -/
def Obligations.ReservedWordsAreRefused : Prop :=
  (∀ r : Request, (∃ why, decode r = .error why) ↔ ReservedForm r.word) ∧
  ∀ (s : State) (a : Arrival) (rest : List Arrival), s.requests = a :: rest → ReservedForm a.req.word →
    ∃ why, step s = .refused (.reservedEncoding why)

/-- The ten example words of R131, which the spec derives from R112 to R118, are decoded as the requests they stand
for. -/
def Obligations.ExampleWordsDecode : Prop :=
  decode { word := 0x200003C4, wdata := 0x02 } = .ok (.outSeqi (.b8 0x02)) ∧
  decode { word := 0x000003C5 } = .ok (.inSeqd .byte) ∧
  decode { word := 0x200103CE, wdata := 0x0005 } = .ok (.outGri (.b16 0x0005)) ∧
  decode { word := 0x000003DA } = .ok (.inSt1Colour .byte) ∧
  decode { word := 0x200003C0, wdata := 0x05 } = .ok (.outAttr (.b8 0x05)) ∧
  decode { word := 0x60000100, wbytes := [0xAA] } = .ok (.mmioW 0x100 [0xAA]) ∧
  decode { word := 0x40000100, len := 1 } = .ok (.mmioR 0x100 1) ∧
  (∀ ok, decode { word := 0x80000001, base := 0xA0000, length := 0x20000, attachOk := ok } =
    .ok (.hostAttach 0xA0000 0x20000 ok)) ∧
  decode { word := 0x80000002 } = .ok .hostDetach ∧
  decode { word := 0x80000003 } = .ok .hostDiag

/-! ### The step -/

/-- A step takes the first pending request and is the meaning of the operation it is decoded as, run in the state in
which that request is no longer pending; the rest of the queue is untouched (`00_scope.md` R16, `20_memory.md` R96). -/
def Obligations.StepRunsDecodedRequest : Prop :=
  ∀ (s : State) (a : Arrival) (rest : List Arrival) (i : Instr),
    s.requests = a :: rest → a.overlapped = false → decode a.req = .ok i →
    step s = exec i { s with requests := rest }

/-- With no request pending the block waits and nothing changes (`60_exceptions.md` R310); a request marked as
overlapping another is refused (`20_memory.md` R97; the mark, and that the marked one of two overlapping requests is the
one refused, are the model's own, log entry 9). -/
def Obligations.IdleWaitsAndOverlapIsRefused : Prop :=
  (∀ s : State, s.requests = [] → step s = .next s) ∧
  ∀ (s : State) (a : Arrival) (rest : List Arrival) (i : Instr),
    s.requests = a :: rest → a.overlapped = true → decode a.req = .ok i → step s = .refused .concurrent

/-! ### I/O dispatch -/

/-- While detached, every I/O and MMIO operation, of whatever width, and the diagnostic read are refused (R140, R250,
R251, R263, in the order of R307). -/
def Obligations.DetachedBlockRefusesRequests : Prop :=
  ∀ (i : Instr) (s : State), s.attached = false → (i.isGuest = true ∨ i = .hostDiag) →
    exec i s = .refused .notAttached

/-- R142: under TRUNCATE a wide access runs the one-byte operation of its own port, with its side effects; a write uses
the low byte, a read returns the byte zero-extended; InvalidAccessWidth is signalled. -/
def Obligations.WideAccessTruncates : Prop :=
  ∀ (i : Instr) (s : State) (port : Port) (size : IoSize) (isWrite : Bool),
    i.ioAccess = some (port, size, isWrite) → size ≠ .byte → s.attached = true → s.params.wideIo = .truncate →
    ∃ t, exec i.narrow s = .next t ∧
      (isWrite = true → exec i s =
        .next { t with response := some { rdata := none, status := .invalidAccessWidth port size } }) ∧
      (isWrite = false → ∃ b, t.response = gaveByte b ∧ exec i s =
        .next { t with
          response := some { rdata := some (.io (zextByte size b)), status := .invalidAccessWidth port size } })

/-- R143: under IGNORE a wide access changes nothing and a read returns zero bits; InvalidAccessWidth is signalled. -/
def Obligations.WideAccessIgnored : Prop :=
  ∀ (i : Instr) (s : State) (port : Port) (size : IoSize) (isWrite : Bool),
    i.ioAccess = some (port, size, isWrite) → size ≠ .byte → s.attached = true → s.params.wideIo = .ignore →
    exec i s = .next { s with response := some {
      rdata := if isWrite then none else some (.io (zextByte size 0)), status := .invalidAccessWidth port size } }

/-- R141: while attached every I/O operation completes, with a status that only its width decides; an unmapped port
reads 0 and ignores writes. -/
def Obligations.DispatchNeverFails : Prop :=
  (∀ (i : Instr) (s : State) (port : Port) (size : IoSize) (isWrite : Bool),
    i.ioAccess = some (port, size, isWrite) → s.attached = true →
    ∃ t rdata, exec i s = .next t ∧ t.response = some { rdata := rdata, status := ioStatus port size } ∧
      rdata.isSome = !isWrite) ∧
  ∀ (s : State) (port : Port), s.attached = true →
    exec (.inNone port .byte) s = .next { s with response := gaveByte 0 } ∧
    ∀ v, exec (.outNone port (.b8 v)) s = .next { s with response := some { rdata := none, status := .ok } }

/-- R144 and R145: a port that no row lists is decoded as IN.NONE or OUT.NONE, reads 0x00 and ignores writes. -/
def Obligations.UnmappedPorts : Prop :=
  (∀ (port : Port) (size : IoSize) (d : IoData), port ∉ mappedPorts →
    decode (encodeIn port size) = .ok (.inNone port size) ∧ decode (encodeOut port d) = .ok (.outNone port d)) ∧
  ∀ (s : State) (port : Port), s.attached = true →
    (∀ z, IoRuns s z → exec (.inNone port z) s = .next { s with response := gave port z 0x00 }) ∧
    (∀ d, IoRuns s d.size → exec (.outNone port d) s = .next { s with response := wrote port d })

/-! ### Register banks -/

/-- R154 and R155: the CRT index ports, both aliases: words, value returned, register written, and nothing else. -/
def Obligations.CrtIndexPorts : Prop :=
  (ReadWord 0x000003B4 .inCrtiMono ∧ ReadWord 0x000003D4 .inCrtiColour ∧
    WriteWord 0x200003B4 .outCrtiMono ∧ WriteWord 0x200003D4 .outCrtiColour) ∧
  ∀ s : State, s.attached = true →
    (∀ z, IoRuns s z →
      exec (.inCrtiMono z) s = .next { s with response := gave 0x3B4 z s.crt.index } ∧
      exec (.inCrtiColour z) s = .next { s with response := gave 0x3D4 z s.crt.index }) ∧
    (∀ d, IoRuns s d.size →
      exec (.outCrtiMono d) s =
        .next { s with crt := { s.crt with index := dataByte d }, response := wrote 0x3B4 d } ∧
      exec (.outCrtiColour d) s =
        .next { s with crt := { s.crt with index := dataByte d }, response := wrote 0x3D4 d })

/-- R156 and R157: the CRT data ports, both aliases. -/
def Obligations.CrtDataPorts : Prop :=
  (ReadWord 0x000003B5 .inCrtdMono ∧ ReadWord 0x000003D5 .inCrtdColour ∧
    WriteWord 0x200003B5 .outCrtdMono ∧ WriteWord 0x200003D5 .outCrtdColour) ∧
  ∀ s : State, s.attached = true →
    (∀ z, IoRuns s z →
      exec (.inCrtdMono z) s =
        .next { s with response := gave 0x3B5 z (s.crt.data[s.crt.index.toNat]'s.crt.index.isLt) } ∧
      exec (.inCrtdColour z) s =
        .next { s with response := gave 0x3D5 z (s.crt.data[s.crt.index.toNat]'s.crt.index.isLt) }) ∧
    (∀ d, IoRuns s d.size →
      exec (.outCrtdMono d) s =
        .next { s with
          crt := { s.crt with data := s.crt.data.set s.crt.index.toNat (dataByte d) s.crt.index.isLt },
          response := wrote 0x3B5 d } ∧
      exec (.outCrtdColour d) s =
        .next { s with
          crt := { s.crt with data := s.crt.data.set s.crt.index.toNat (dataByte d) s.crt.index.isLt },
          response := wrote 0x3D5 d })

/-- R158 to R161: the Sequencer index and data ports; a data write at index 2 is the map mask and one at index 4 the
chain-4 bit of the next decode, and one at any other index changes no decode. -/
def Obligations.SequencerPorts : Prop :=
  (ReadWord 0x000003C4 .inSeqi ∧ WriteWord 0x200003C4 .outSeqi ∧
    ReadWord 0x000003C5 .inSeqd ∧ WriteWord 0x200003C5 .outSeqd) ∧
  ∀ s : State, s.attached = true →
    (∀ z, IoRuns s z →
      exec (.inSeqi z) s = .next { s with response := gave 0x3C4 z s.seq.index } ∧
      exec (.inSeqd z) s =
        .next { s with response := gave 0x3C5 z (s.seq.data[s.seq.index.toNat]'s.seq.index.isLt) }) ∧
    (∀ d, IoRuns s d.size →
      exec (.outSeqi d) s =
        .next { s with seq := { s.seq with index := dataByte d }, response := wrote 0x3C4 d } ∧
      exec (.outSeqd d) s =
        .next { s with
          seq := { s.seq with data := s.seq.data.set s.seq.index.toNat (dataByte d) s.seq.index.isLt },
          response := wrote 0x3C5 d } ∧
      ∀ t, exec (.outSeqd d) s = .next t →
        (s.seq.index = 2 → t.mapMask = (dataByte d).extractLsb' 0 4) ∧
        (s.seq.index = 4 → t.chain4 = (dataByte d).getLsbD 3) ∧
        (s.seq.index ≠ 2 → s.seq.index ≠ 4 → ∀ a v,
          t.decodeWrite a v = s.decodeWrite a v ∧ t.decodeRead a = s.decodeRead a))

/-- R162 to R165: the Graphics index and data ports. Nothing else changes, so neither port falls through into the
attribute latch; a data write at index 0, 1, 4, 5, 6 or 8 is the decoder input there for the next decode. Indices 0, 1,
4, 6 and 8 and the fields of 5 are the spec's general knowledge (log entry 15). -/
def Obligations.GraphicsPorts : Prop :=
  (ReadWord 0x000003CE .inGri ∧ WriteWord 0x200003CE .outGri ∧
    ReadWord 0x000003CF .inGrd ∧ WriteWord 0x200003CF .outGrd) ∧
  ∀ s : State, s.attached = true →
    (∀ z, IoRuns s z →
      exec (.inGri z) s = .next { s with response := gave 0x3CE z s.gr.index } ∧
      exec (.inGrd z) s =
        .next { s with response := gave 0x3CF z (s.gr.data[s.gr.index.toNat]'s.gr.index.isLt) }) ∧
    (∀ d, IoRuns s d.size →
      exec (.outGri d) s =
        .next { s with gr := { s.gr with index := dataByte d }, response := wrote 0x3CE d } ∧
      exec (.outGrd d) s =
        .next { s with
          gr := { s.gr with data := s.gr.data.set s.gr.index.toNat (dataByte d) s.gr.index.isLt },
          response := wrote 0x3CF d } ∧
      ∀ t, exec (.outGrd d) s = .next t →
        (s.gr.index = 0 → t.setReset = dataByte d) ∧ (s.gr.index = 1 → t.enableSetReset = dataByte d) ∧
        (s.gr.index = 4 → t.readMapSelect = dataByte d) ∧
        (s.gr.index = 5 → t.writeMode = (dataByte d).extractLsb' 0 2 ∧ t.oddEven = (dataByte d).getLsbD 4) ∧
        (s.gr.index = 6 → t.memoryMapMode = (dataByte d).extractLsb' 2 2) ∧
        (s.gr.index = 8 → t.bitMask = dataByte d))

/-- A data-port write reaches only the selected slot of its own bank; an index-port write reaches none
(`10_state.md` §2, `41_regbanks.md` §1). -/
def Obligations.DataWriteReachesOneSlot : Prop :=
  ∀ (s t : State) (d : IoData) (i : Byte), IoRuns s d.size →
    ((exec (.outCrtdMono d) s = .next t ∨ exec (.outCrtdColour d) s = .next t) →
      t.crt.slot i = if i = s.crt.index then dataByte d else s.crt.slot i) ∧
    (exec (.outSeqd d) s = .next t → t.seq.slot i = if i = s.seq.index then dataByte d else s.seq.slot i) ∧
    (exec (.outGrd d) s = .next t → t.gr.slot i = if i = s.gr.index then dataByte d else s.gr.slot i) ∧
    ((exec (.outCrtiMono d) s = .next t ∨ exec (.outCrtiColour d) s = .next t ∨ exec (.outSeqi d) s = .next t ∨
      exec (.outGri d) s = .next t) →
      t.crt.slot i = s.crt.slot i ∧ t.seq.slot i = s.seq.slot i ∧ t.gr.slot i = s.gr.slot i)

/-- R166, which the spec derives from R150 and R151: an index written is read back, for the CRT through either alias, the
Sequencer and the Graphics Controller. For the attribute port it does not hold: right after an index write the read gives
0x00. -/
def Obligations.IndexReadBack : Prop :=
  (∀ (s : State) (b : Byte) (wp rp : Port),
    (wp, rp) ∈ ([(0x3B4, 0x3B4), (0x3B4, 0x3D4), (0x3D4, 0x3B4), (0x3D4, 0x3D4), (0x3C4, 0x3C4), (0x3CE, 0x3CE)] :
      List (Port × Port)) →
    s.attached = true →
    ∃ t, runSteps 2 (s.enqueue [reqOut wp b, reqIn rp]) = .next t ∧ t.response = gaveByte b) ∧
  ∀ (s : State) (b : Byte), s.attached = true → s.attr.flip = false →
    ∃ t, runSteps 2 (s.enqueue [reqOut 0x3C0 b, reqIn 0x3C0]) = .next t ∧ t.response = gaveByte 0x00

/-- R167, which the spec derives from R152 and R153: a register set through SETREG is read back through the data port, at
every index. -/
def Obligations.DataReadBack : Prop :=
  ∀ (s : State) (ip : Port) (i v : Byte), ip ∈ ([0x3B4, 0x3D4, 0x3C4, 0x3CE] : List Port) → s.attached = true →
    ∃ t, runSteps 3 (s.enqueue (setReg ip i v ++ [reqIn (ip + 1)])) = .next t ∧ t.response = gaveByte v

/-- R121: alias ports select the same operation in every state, and no state disables either of them. -/
def Obligations.AliasPortsAgree : Prop :=
  ∀ (s : State) (v : Byte),
    exec (.inCrtiMono .byte) s = exec (.inCrtiColour .byte) s ∧
    exec (.outCrtiMono (.b8 v)) s = exec (.outCrtiColour (.b8 v)) s ∧
    exec (.inCrtdMono .byte) s = exec (.inCrtdColour .byte) s ∧
    exec (.outCrtdMono (.b8 v)) s = exec (.outCrtdColour (.b8 v)) s ∧
    exec (.inSt1Mono .byte) s = exec (.inSt1Colour .byte) s ∧
    exec (.outFeatMono (.b8 v)) s = exec (.outFeatColour (.b8 v)) s ∧
    (s.attached = true →
      (∃ t, exec (.inCrtiColour .byte) s = .next t) ∧ (∃ t, exec (.outCrtiColour (.b8 v)) s = .next t) ∧
      (∃ t, exec (.inCrtdColour .byte) s = .next t) ∧ (∃ t, exec (.outCrtdColour (.b8 v)) s = .next t) ∧
      (∃ t, exec (.inSt1Colour .byte) s = .next t) ∧ (∃ t, exec (.outFeatColour (.b8 v)) s = .next t))

/-! ### Attribute Controller -/

/-- R172, the two phases of a write of port 0x3C0, with the table of write masks of R171. That the masks of the named
registers stand at indices 0x10 to 0x14 is general knowledge by the spec's own mark (R35, G4; log entry 15); the mask of
0x15 to 0x1F is its decision D8 (log entry 17). -/
def Obligations.AttributeWritePort : Prop :=
  WriteWord 0x200003C0 .outAttr ∧
  ((∀ i : BitVec 5, i.toNat ≤ 0x0F → attrMask i = 0x3F) ∧ attrMask 0x10 = 0xEF ∧ attrMask 0x11 = 0xFF ∧
    attrMask 0x12 = 0x3F ∧ attrMask 0x13 = 0x0F ∧ attrMask 0x14 = 0x0F ∧
    ∀ i : BitVec 5, 0x15 ≤ i.toNat → attrMask i = 0xFF) ∧
  ∀ (s : State) (d : IoData), s.attached = true → IoRuns s d.size →
    (s.attr.flip = false →
      exec (.outAttr d) s =
        .next { s with attr := { s.attr with index := dataByte d &&& 0x3F, flip := true }, response := wrote 0x3C0 d }) ∧
    (s.attr.flip = true → ∀ i : Fin 256, i.val = s.attr.index.toNat % 0x20 →
      exec (.outAttr d) s =
        .next { s with
          attr := { s.attr with
            data := s.attr.data.set i (dataByte d &&& attrMask (BitVec.ofNat 5 i.val)), flip := false },
          response := wrote 0x3C0 d })

/-- R173, R174 and R175: the reads of ports 0x3C0 and 0x3C1, and the write of 0x3C1, which does nothing. -/
def Obligations.AttributeReadPorts : Prop :=
  (ReadWord 0x000003C0 .inAttr ∧ ReadWord 0x000003C1 .inAttrd ∧ WriteWord 0x200003C1 .outAttrd) ∧
  ∀ s : State, s.attached = true →
    (∀ z, IoRuns s z →
      (s.attr.flip = false → exec (.inAttr z) s = .next { s with response := gave 0x3C0 z s.attr.index }) ∧
      (s.attr.flip = true → exec (.inAttr z) s = .next { s with response := gave 0x3C0 z 0x00 }) ∧
      (∀ i : Fin 256, i.val = s.attr.index.toNat % 0x20 →
        exec (.inAttrd z) s = .next { s with response := gave 0x3C1 z s.attr.data[i] })) ∧
    (∀ d, IoRuns s d.size → exec (.outAttrd d) s = .next { s with response := wrote 0x3C1 d })

/-- R170: every write of 0x3C0 toggles the flip-flop, a read of 0x3BA or 0x3DA puts it in AwaitIndex, and no other
request to an attached block changes it. -/
def Obligations.FlipFlopChanges : Prop :=
  ∀ (i : Instr) (s t : State), exec i s = .next t →
    (∀ d, i = .outAttr d → IoRuns s d.size → t.attr.flip = !s.attr.flip) ∧
    (∀ z, (i = .inSt1Mono z ∨ i = .inSt1Colour z) → IoRuns s z → t.attr.flip = false) ∧
    ((i.isGuest = true ∨ i = .hostDiag) → (∀ d, i ≠ .outAttr d) → (∀ z, i ≠ .inSt1Mono z) →
      (∀ z, i ≠ .inSt1Colour z) → t.attr.flip = s.attr.flip)

/-- R177, which the spec derives from R170, R172 and R206: in every state, a status-1 read and then two writes of 0x3C0 are an index write and a data write. -/
def Obligations.StatusReadResynchronises : Prop :=
  ∀ (s : State) (sp : Port) (i v : Byte), (sp = 0x3BA ∨ sp = 0x3DA) → s.attached = true →
    ∃ t, runSteps 3 (s.enqueue [reqIn sp, reqOut 0x3C0 i, reqOut 0x3C0 v]) = .next t ∧
      t.attr.index = i &&& 0x3F ∧ t.attr.flip = false ∧
      ∀ j : Fin 256, t.attr.data[j] =
        if j.val = i.toNat % 0x20 then v &&& attrMask (i.setWidth 5) else s.attr.data[j]

/-! ### DAC -/

/-- R186 to R189: the DAC index ports. -/
def Obligations.DacIndexPorts : Prop :=
  (ReadWord 0x000003C7 .inDacri ∧ WriteWord 0x200003C7 .outDacri ∧
    ReadWord 0x000003C8 .inDacwi ∧ WriteWord 0x200003C8 .outDacwi) ∧
  ∀ s : State, s.attached = true →
    (∀ z, IoRuns s z →
      exec (.inDacri z) s = .next { s with response := gave 0x3C7 z s.dac.readIndex } ∧
      exec (.inDacwi z) s = .next { s with response := gave 0x3C8 z s.dac.writeIndex }) ∧
    (∀ d, IoRuns s d.size →
      exec (.outDacri d) s =
        .next { s with
          dac := { s.dac with readIndex := dataByte d, subIndex := 0, dacState := 3 }, response := wrote 0x3C7 d } ∧
      exec (.outDacwi d) s =
        .next { s with
          dac := { s.dac with writeIndex := dataByte d, subIndex := 0, dacState := 0 }, response := wrote 0x3C8 d })

/-- R190: a component write goes to `pending`; the third one commits the triplet at once and moves the write index on. -/
def Obligations.DacDataWrite : Prop :=
  WriteWord 0x200003C9 .outDacd ∧
  ∀ (s : State) (d : IoData), s.attached = true → IoRuns s d.size →
    (∀ h : s.dac.subIndex.val < 2,
      exec (.outDacd d) s =
        .next { s with
          dac := { s.dac with
            pending := s.dac.pending.set s.dac.subIndex (dataByte d &&& 0x3F),
            subIndex := ⟨s.dac.subIndex.val + 1, Nat.succ_lt_succ h⟩ },
          response := wrote 0x3C9 d }) ∧
    (s.dac.subIndex = 2 →
      exec (.outDacd d) s =
        .next { s with
          dac := { s.dac with
            pending := s.dac.pending.set 2 (dataByte d &&& 0x3F),
            palette := s.dac.palette.set s.dac.writeIndex.toNat (s.dac.pending.set 2 (dataByte d &&& 0x3F))
              s.dac.writeIndex.isLt,
            writeIndex := s.dac.writeIndex + 1, subIndex := 0 },
          response := wrote 0x3C9 d })

/-- R191: a component read comes from the palette, where under the invariant it is at most 0x3F; the third one moves the
read index on. -/
def Obligations.DacDataRead : Prop :=
  ReadWord 0x000003C9 .inDacd ∧
  ∀ (s : State) (z : IoSize) (e : Fin 256), s.attached = true → IoRuns s z → e.val = s.dac.readIndex.toNat →
    (DacInv s.dac → s.dac.palette[e][s.dac.subIndex] ≤ 0x3F) ∧
    (∀ h : s.dac.subIndex.val < 2,
      exec (.inDacd z) s =
        .next { s with
          dac := { s.dac with subIndex := ⟨s.dac.subIndex.val + 1, Nat.succ_lt_succ h⟩ },
          response := gave 0x3C9 z s.dac.palette[e][s.dac.subIndex] }) ∧
    (s.dac.subIndex = 2 →
      exec (.inDacd z) s =
        .next { s with
          dac := { s.dac with readIndex := s.dac.readIndex + 1, subIndex := 0 },
          response := gave 0x3C9 z s.dac.palette[e][2] })

/-- R192, which the spec derives from R186 to R191: a triplet written is read back, masked to 6 bits, through the entry before the write index; and both DAC
indices are read back. -/
def Obligations.DacRoundTrip : Prop :=
  (∀ (s : State) (e r g b : Byte), s.attached = true →
    ∃ t, runSteps 4 (s.enqueue (dacSet e r g b)) = .next t ∧ t.dac.writeIndex - 1 = e ∧
      ∃ t1 t2 t3,
        runSteps 2 (t.enqueue [reqOut 0x3C7 (t.dac.writeIndex - 1), reqIn 0x3C9]) = .next t1 ∧
        t1.response = gaveByte (r &&& 0x3F) ∧
        runSteps 1 (t1.enqueue [reqIn 0x3C9]) = .next t2 ∧ t2.response = gaveByte (g &&& 0x3F) ∧
        runSteps 1 (t2.enqueue [reqIn 0x3C9]) = .next t3 ∧ t3.response = gaveByte (b &&& 0x3F)) ∧
  ∀ (s : State) (b : Byte) (ip : Port), s.attached = true → (ip = 0x3C7 ∨ ip = 0x3C8) →
    ∃ t, runSteps 2 (s.enqueue [reqOut ip b, reqIn ip]) = .next t ∧ t.response = gaveByte b

/-- R193, which the spec derives from R190 and R191: reads and writes of 0x3C9 advance one sub-index, so a read between two writes leaves a stale pending byte in
the triplet that the second write commits. -/
def Obligations.DacSharedSubIndex : Prop :=
  (∀ (s t : State) (z : IoSize) (d : IoData),
    (IoRuns s z ∧ exec (.inDacd z) s = .next t) ∨ (IoRuns s d.size ∧ exec (.outDacd d) s = .next t) →
    t.dac.subIndex.val = (s.dac.subIndex.val + 1) % 3) ∧
  ∀ (s : State) (a c : Byte) (e w : Fin 256), s.attached = true → s.dac.subIndex = 0 →
    e.val = s.dac.readIndex.toNat → w.val = s.dac.writeIndex.toNat →
    ∃ t u, runSteps 2 (s.enqueue [reqOut 0x3C9 a, reqIn 0x3C9]) = .next t ∧
      t.response = gaveByte s.dac.palette[e][1] ∧ t.dac.subIndex = 2 ∧
      runSteps 1 (t.enqueue [reqOut 0x3C9 c]) = .next u ∧
      u.dac.palette[w][0] = a &&& 0x3F ∧ u.dac.palette[w][1] = s.dac.pending[1] ∧ u.dac.palette[w][2] = c &&& 0x3F

/-- While attached, a palette entry changes only when a third component is written (`70_reset_and_hazards.md` §3), and
then only the entry at the write index. -/
def Obligations.PaletteChangesOnThirdComponent : Prop :=
  ∀ (i : Instr) (s t : State) (e : Fin 256), (i.isGuest = true ∨ i = .hostDiag) → exec i s = .next t →
    t.dac.palette[e] ≠ s.dac.palette[e] →
    (∃ d, i = .outDacd d) ∧ s.dac.subIndex = 2 ∧ e.val = s.dac.writeIndex.toNat

/-! ### Misc ports -/

/-- R200 to R203: misc output is written at 0x3C2 with bit 4 cleared and read at 0x3CC; 0x3C2 reads input status 0; a
write of 0x3CC does nothing. -/
def Obligations.MiscOutputPorts : Prop :=
  (WriteWord 0x200003C2 .outMisc ∧ ReadWord 0x000003C2 .inSt0 ∧ ReadWord 0x000003CC .inMiscr ∧
    WriteWord 0x200003CC .outMiscr) ∧
  ∀ s : State, s.attached = true →
    (∀ z, IoRuns s z →
      exec (.inSt0 z) s = .next { s with response := gave 0x3C2 z s.misc.status0 } ∧
      exec (.inMiscr z) s = .next { s with response := gave 0x3CC z s.misc.output }) ∧
    (∀ d, IoRuns s d.size →
      exec (.outMisc d) s =
        .next { s with misc := { s.misc with output := dataByte d &&& 0xEF }, response := wrote 0x3C2 d } ∧
      exec (.outMiscr d) s = .next { s with response := wrote 0x3CC d })

/-- R204 to R207: feature control is read at 0x3CA and written at 0x3BA and 0x3DA; those two read input status 1 and put
the flip-flop in AwaitIndex; a write of 0x3CA does nothing. -/
def Obligations.FeatureAndStatusPorts : Prop :=
  (ReadWord 0x000003CA .inFeatr ∧ WriteWord 0x200003CA .outFeatr ∧ ReadWord 0x000003BA .inSt1Mono ∧
    ReadWord 0x000003DA .inSt1Colour ∧ WriteWord 0x200003BA .outFeatMono ∧ WriteWord 0x200003DA .outFeatColour) ∧
  ∀ s : State, s.attached = true →
    (∀ z, IoRuns s z →
      exec (.inFeatr z) s = .next { s with response := gave 0x3CA z s.misc.feature } ∧
      exec (.inSt1Mono z) s =
        .next { s with attr := { s.attr with flip := false }, response := gave 0x3BA z s.misc.status1 } ∧
      exec (.inSt1Colour z) s =
        .next { s with attr := { s.attr with flip := false }, response := gave 0x3DA z s.misc.status1 }) ∧
    (∀ d, IoRuns s d.size →
      exec (.outFeatr d) s = .next { s with response := wrote 0x3CA d } ∧
      exec (.outFeatMono d) s =
        .next { s with misc := { s.misc with feature := dataByte d }, response := wrote 0x3BA d } ∧
      exec (.outFeatColour d) s =
        .next { s with misc := { s.misc with feature := dataByte d }, response := wrote 0x3DA d })

/-- R208 and R209: port 0x3C3 has no storage: it reads 0x00 and a write changes nothing. -/
def Obligations.EnablePort : Prop :=
  (ReadWord 0x000003C3 .inEna ∧ WriteWord 0x200003C3 .outEna) ∧
  ∀ s : State, s.attached = true →
    (∀ z, IoRuns s z → exec (.inEna z) s = .next { s with response := gave 0x3C3 z 0x00 }) ∧
    (∀ d, IoRuns s d.size → exec (.outEna d) s = .next { s with response := wrote 0x3C3 d })

/-- R42: no request to an attached block writes a status byte (the spec's decision D14); and the host's operations keep
them at 0x00, which the spec derives from R51. -/
def Obligations.StatusBytesNeverWritten : Prop :=
  ∀ (i : Instr) (s t : State), exec i s = .next t →
    ((i.isGuest = true ∨ i = .hostDiag) →
      t.misc.status0 = s.misc.status0 ∧ t.misc.status1 = s.misc.status1) ∧
    (s.misc.status0 = 0 → s.misc.status1 = 0 → t.misc.status0 = 0 ∧ t.misc.status1 = 0)

/-! ### Address decoder -/

/-- R83 and R84: a byte is in the selected map, at rebased address r, exactly when window base plus offset is map base
plus r with r below the map's size (the spec's decision D16, log entry 17); and, which the spec derives from R83 and R84,
with the legacy window and map 00 or 01 the rebased address is the offset. -/
def Obligations.RebaseRule : Prop :=
  (∀ (s : State) (off r : Nat), s.rebase off = some r ↔
    ∃ base size : Nat,
      ((s.memoryMapMode = 0 ∧ base = 0xA0000 ∧ size = s.cfg.windowLen.toNat) ∨
        (s.memoryMapMode = 1 ∧ base = 0xA0000 ∧ size = 0x10000) ∨
        (s.memoryMapMode = 2 ∧ base = 0xB0000 ∧ size = 0x8000) ∨
        (s.memoryMapMode = 3 ∧ base = 0xB8000 ∧ size = 0x8000)) ∧
      s.cfg.windowBase.toNat + off = base + r ∧ r < size) ∧
  ∀ (s : State) (off : Nat), s.cfg.windowBase = 0xA0000 → s.cfg.windowLen = 0x20000 →
    (s.memoryMapMode = 0 → off < 0x20000 → s.rebase off = some off) ∧
    (s.memoryMapMode = 1 → off < 0x10000 → s.rebase off = some off)

/-- R222, R223 and R224: a byte written in chain-4 mode, or else in odd/even mode, is stored raw in the one plane its
address selects, if that plane is write-enabled; nothing else changes. -/
def Obligations.RawModesStoreTheByte : Prop :=
  ∀ (s : State) (off : Offset) (v : Byte) (r : Nat) (p : Plane),
    s.attached = true → PlanesInv s.planes → Reaches s off 0 r →
    ((s.chain4 = true ∧ p.val = r % 4) ∨
      (s.chain4 = false ∧ s.oddEven = true ∧ p.val = 2 * (s.readMapSelect.toNat / 2 % 2) + r % 2)) →
    WritesPlanes (.mmioW off [v]) s s.draws fun q o =>
      if q = p ∧ o = r ∧ s.mapMask.getLsbD p.val = true ∧ r < s.params.planeSize then v else s.planeRead q o

/-- R226, R228 and R229: a planar byte written in write mode 0, with BITWISE Set/Reset and the bit mask over the plane's
own byte; and the same with PER_PLANE Set/Reset, R227, which the spec marks as general knowledge (log entry 16). -/
def Obligations.PlanarMode0Write : Prop :=
  ∀ (s : State) (off : Offset) (v : Byte) (r : Nat),
    s.attached = true → PlanesInv s.planes → Reaches s off 0 r → s.chain4 = false → s.oddEven = false →
    s.writeMode = 0 →
    (s.params.setReset = .bitwise →
      WritesPlanes (.mmioW off [v]) s s.draws fun q o =>
        if o = r ∧ s.mapMask.getLsbD q.val = true ∧ r < s.params.planeSize then
          (((s.enableSetReset &&& s.setReset) ||| (~~~s.enableSetReset &&& v)) &&& s.bitMask) |||
            (s.planeRead q r &&& ~~~s.bitMask)
        else s.planeRead q o) ∧
    (s.params.setReset = .perPlane →
      WritesPlanes (.mmioW off [v]) s s.draws fun q o =>
        if o = r ∧ s.mapMask.getLsbD q.val = true ∧ r < s.params.planeSize then
          ((if s.enableSetReset.getLsbD q.val = true then
              (if s.setReset.getLsbD q.val = true then 0xFF else 0x00) else v) &&& s.bitMask) |||
            (s.planeRead q r &&& ~~~s.bitMask)
        else s.planeRead q o)

/-- R230: a planar byte in write mode 1, 2 or 3. Under REFUSE the whole request is refused, whichever byte it is; under
DRAW every enabled plane byte at its offset takes a free value (whatever it is; log entry 8) and nothing else changes;
a read is not affected. -/
def Obligations.PlanarModes123 : Prop :=
  (∀ (s : State) (off : Offset) (bytes : List Byte) (k r : Nat),
    s.attached = true → PlanarMode123 s → s.params.writeMode123 = .refuse → k < bytes.length →
    Reaches s off k r → exec (.mmioW off bytes) s = .refused .writeModeUnimplemented) ∧
  (∀ (s : State) (off : Offset) (v : Byte) (r : Nat),
    s.attached = true → PlanesInv s.planes → Reaches s off 0 r → PlanarMode123 s → s.params.writeMode123 = .draw →
    WritesPlanes (.mmioW off [v]) s (s.draws + 1) fun q o =>
      if o = r ∧ s.mapMask.getLsbD q.val = true ∧ r < s.params.planeSize then Config.drawnByte s.draws q
      else s.planeRead q o) ∧
  ∀ (s : State) (off : Offset) (r : Nat) (p : Plane),
    s.attached = true → Reaches s off 0 r → PlanarMode123 s → p.val = s.readMapSelect.toNat % 4 →
    ∃ l, exec (.mmioR off 1) s = .next { s with
      latch := l, response := some { rdata := some (.mmio [s.planeRead p r]), status := .ok } }

/-- The pipeline of write modes 1, 2 and 3 under VGA_GK, R231, which the spec marks as general knowledge and not its
source's (log entry 16). -/
def Obligations.VgaGkPipeline : Prop :=
  ∀ (s : State) (off : Offset) (v : Byte) (r : Nat),
    s.attached = true → PlanesInv s.planes → Reaches s off 0 r → PlanarMode123 s → s.params.writeMode123 = .vgaGk →
    let rot := (s.gr.slot 3).toNat % 8
    let fn := (s.gr.slot 3).toNat / 8 % 4
    let alu : Byte → Byte → Byte := fun x l =>
      if fn = 0 then x else if fn = 1 then x &&& l else if fn = 2 then x ||| l else x ^^^ l
    let byte : Plane → Byte := fun q =>
      let l := s.latch[q]
      if s.writeMode = 1 then l
      else if s.writeMode = 2 then
        (alu (if v.getLsbD q.val = true then 0xFF else 0x00) l &&& s.bitMask) ||| (l &&& ~~~s.bitMask)
      else
        let m := v.rotateRight rot &&& s.bitMask
        (alu (if s.setReset.getLsbD q.val = true then 0xFF else 0x00) l &&& m) ||| (l &&& ~~~m)
    WritesPlanes (.mmioW off [v]) s s.draws fun q o =>
      if o = r ∧ s.mapMask.getLsbD q.val = true ∧ r < s.params.planeSize then byte q else s.planeRead q o

/-- R253, with R232, which the spec derives: a write decode names at most four plane bytes, in distinct planes, at one
in-plane offset, and they are committed together: each is stored if its offset is below PLANE_SIZE, and no other plane byte changes. -/
def Obligations.WriteDecodeAtMostFour : Prop :=
  ∀ (s : State) (a : Nat) (v : Byte) (w : WriteDecode), PlanesInv s.planes → s.decodeWrite a v = .ok w →
    w.bytes.length ≤ 4 ∧ (w.bytes.map PlaneByte.plane).Nodup ∧
    (∃ r, ∀ b ∈ w.bytes, b.offset = r ∧ s.rebase a = some r) ∧
    ∃ t, s.mmioByteWrite a v = .ok t ∧
      (∀ b ∈ w.bytes, b.offset < s.params.planeSize → t.planeRead b.plane b.offset = b.value) ∧
      ∀ (q : Plane) (o : Nat), (∀ b ∈ w.bytes, b.plane ≠ q ∨ b.offset ≠ o) → t.planeRead q o = s.planeRead q o

/-- Two states that agree in the decoder's inputs (R47) decode every byte alike, so no other register, and no other bit
of these, has an effect on the decoder (R33, for the Graphics bank); the latches, the rotate count and the function select
have one only under VGA_GK, and the counter of free values only under DRAW. At which index and in which bits each input
stands is PRESUMED, log entry 15; the rotate count and function select of Graphics register 3 are log entry 16; the
counter is the model's own, log entry 8. -/
def Obligations.DecoderReadsOnlyItsInputs : Prop :=
  ∀ s t : State, t.cfg = s.cfg → t.params = s.params → (∀ (q : Plane) (o : Nat), t.planeRead q o = s.planeRead q o) →
    (s.params.writeMode123 = .vgaGk → t.latch = s.latch ∧ t.gr.slot 3 &&& 0x1F = s.gr.slot 3 &&& 0x1F) →
    (s.params.writeMode123 = .draw → t.draws = s.draws) →
    t.seq.slot 2 &&& 0x0F = s.seq.slot 2 &&& 0x0F → t.seq.slot 4 &&& 0x08 = s.seq.slot 4 &&& 0x08 →
    t.gr.slot 0 = s.gr.slot 0 → t.gr.slot 1 = s.gr.slot 1 → t.gr.slot 4 &&& 0x03 = s.gr.slot 4 &&& 0x03 →
    t.gr.slot 5 &&& 0x13 = s.gr.slot 5 &&& 0x13 → t.gr.slot 6 &&& 0x0C = s.gr.slot 6 &&& 0x0C →
    t.gr.slot 8 = s.gr.slot 8 →
    ∀ (a : Nat) (v : Byte), t.decodeWrite a v = s.decodeWrite a v ∧ t.decodeRead a = s.decodeRead a

/-- R233 and R234 (and the plane of R235): the plane and offset of a read, which in chain-4 and odd/even mode are those
of a write to the same address. -/
def Obligations.ReadDecode : Prop :=
  ∀ (s : State) (a : Nat),
    (s.rebase a = none → s.decodeRead a = none) ∧
    (∀ r, s.rebase a = some r → ∃ p, s.decodeRead a = some (p, r) ∧
      p.val = if s.chain4 = true then r % 4
        else if s.oddEven = true then 2 * (s.readMapSelect.toNat / 2 % 2) + r % 2
        else s.readMapSelect.toNat % 4) ∧
    (∀ v w b, (s.chain4 = true ∨ s.oddEven = true) → s.decodeWrite a v = .ok w → b ∈ w.bytes →
      s.decodeRead a = some (b.plane, b.offset))

/-! ### MMIO requests -/

/-- R251: an MMIO read of an attached block completes; it returns each byte of the planes, or 0x00 out of the
window or the map; the status names the first out-of-window offset; the latches hold the planes' bytes at the last
in-map byte's offset, or are unchanged if there is none; nothing else changes. While detached it is refused. -/
def Obligations.MmioReadRequest : Prop :=
  (∀ (off : Offset) (len : Nat),
    decode { word := 0x40000000 ||| off.setWidth 32, len := len } = .ok (.mmioR off len)) ∧
  (∀ (s : State) (off : Offset) (len : Nat), s.attached = false →
    exec (.mmioR off len) s = .refused .notAttached) ∧
  ∀ (s : State) (off : Offset) (len : Nat), s.attached = true →
    ∃ bytes l, exec (.mmioR off len) s = .next { s with
        latch := l, response := some { rdata := some (.mmio bytes), status := rangeStatus s off len } } ∧
      bytes.length = len ∧
      (∀ k p r, k < len → off.toNat + k < s.cfg.windowLen.toNat → s.decodeRead (off.toNat + k) = some (p, r) →
        bytes[k]? = some (s.planeRead p r)) ∧
      (∀ k, k < len → (∀ r, ¬ Reaches s off k r) → bytes[k]? = some 0x00) ∧
      (∀ k r, k < len → Reaches s off k r → (∀ j r', k < j → j < len → ¬ Reaches s off j r') →
        ∀ q : Plane, l[q] = s.planeRead q r) ∧
      ((∀ k r, k < len → ¬ Reaches s off k r) → l = s.latch)

/-- An MMIO write of an attached block completes unless a byte of it is refused; the status names the first
out-of-window offset; no register, flip-flop, DAC state or latch changes; and no plane byte changes but those at the
rebased offset of one of its bytes, in a write-enabled plane (`46_mmio.md` §2). -/
def Obligations.MmioWriteRequest : Prop :=
  (∀ (off : Offset) (bytes : List Byte),
    decode { word := 0x60000000 ||| off.setWidth 32, wbytes := bytes } = .ok (.mmioW off bytes)) ∧
  ∀ (s : State) (off : Offset) (bytes : List Byte), s.attached = true →
    (¬ PlanarMode123 s ∨ s.params.writeMode123 ≠ .refuse ∨ ∀ k r, k < bytes.length → ¬ Reaches s off k r) →
    ∃ ps n, exec (.mmioW off bytes) s = .next { s with
        planes := ps, draws := n,
        response := some { rdata := none, status := rangeStatus s off bytes.length } } ∧
      ∀ (q : Plane) (o : Nat),
        (s.mapMask.getLsbD q.val = false ∨ ∀ k, k < bytes.length → ¬ Reaches s off k o) →
        State.planeRead { s with planes := ps } q o = s.planeRead q o

/-- The bytes of an MMIO write take effect one after another in increasing offset: the request is its first byte's and
then the rest's, its status names the first out-of-window offset, and a refused byte refuses the whole request, the
bytes before it included (`46_mmio.md` §2). -/
def Obligations.MmioWriteIsByteSerial : Prop :=
  ∀ (s : State) (off : Offset) (v : Byte) (vs : List Byte), s.attached = true → off.toNat + 1 < 2 ^ 29 →
    (∀ why, exec (.mmioW off [v]) s = .refused why → exec (.mmioW off (v :: vs)) s = .refused why) ∧
    ∀ t, exec (.mmioW off [v]) s = .next t →
      (∀ why, exec (.mmioW (off + 1) vs) t = .refused why → exec (.mmioW off (v :: vs)) s = .refused why) ∧
      (∀ u, exec (.mmioW (off + 1) vs) t = .next u →
        exec (.mmioW off (v :: vs)) s = .next { u with
          response := if off.toNat < s.cfg.windowLen.toNat then u.response else t.response })

/-- R93: bytes at or beyond the window's end do nothing on a write and read as 0x00; no plane byte and no latch changes;
the request signals OutOfRangeAddress with the first such offset. The first two clauses are a request that starts
there; the others a request whose part in the window (`bytes`, or `n` bytes) is followed by such bytes. -/
def Obligations.OutOfWindowBytes : Prop :=
  (∀ (s : State) (off : Offset), s.attached = true → s.cfg.windowLen.toNat ≤ off.toNat →
    (∀ bytes, bytes ≠ [] → exec (.mmioW off bytes) s =
      .next { s with response := some { rdata := none, status := .outOfRangeAddress off.toNat } }) ∧
    (∀ len, len ≠ 0 → exec (.mmioR off len) s =
      .next { s with response := some {
        rdata := some (.mmio (List.replicate len 0x00)), status := .outOfRangeAddress off.toNat } })) ∧
  ∀ (s t : State) (off : Offset), off.toNat ≤ s.cfg.windowLen.toNat →
    (∀ bytes beyond, off.toNat + bytes.length = s.cfg.windowLen.toNat → beyond ≠ [] →
      exec (.mmioW off bytes) s = .next t →
      exec (.mmioW off (bytes ++ beyond)) s = .next { t with
        response := some { rdata := none, status := .outOfRangeAddress s.cfg.windowLen.toNat } }) ∧
    (∀ n m, off.toNat + n = s.cfg.windowLen.toNat → m ≠ 0 → exec (.mmioR off n) s = .next t →
      ∃ bytes, t.response = some { rdata := some (.mmio bytes), status := .ok } ∧
        exec (.mmioR off (n + m)) s = .next { t with
          response := some {
            rdata := some (.mmio (bytes ++ List.replicate m 0x00)),
            status := .outOfRangeAddress s.cfg.windowLen.toNat } })

/-- R94: a byte in the window but outside the selected map does nothing on a write and reads as 0x00 with no latch
loaded (the first clause); a request of such bytes changes nothing and signals no condition (the second). -/
def Obligations.OutOfMapBytes : Prop :=
  (∀ (s : State) (a : Nat), s.rebase a = none →
    (∀ v, s.mmioByteWrite a v = .ok s) ∧ s.mmioByteRead a = (0x00, s)) ∧
  ∀ (s : State) (off : Offset) (n : Nat), s.attached = true → off.toNat + n ≤ s.cfg.windowLen.toNat →
    (∀ k, k < n → s.rebase (off.toNat + k) = none) →
    (∀ bytes, bytes.length = n → exec (.mmioW off bytes) s =
      .next { s with response := some { rdata := none, status := .ok } }) ∧
    exec (.mmioR off n) s =
      .next { s with response := some { rdata := some (.mmio (List.replicate n 0x00)), status := .ok } }

/-- R95: a plane byte at or beyond PLANE_SIZE reads as 0x00 and is not written (the spec's decision D24, log entry 17);
and, which the spec derives from R83, R84 and R9, with PLANE_SIZE at its default and a window no longer than it no
rebased address lies there. -/
def Obligations.PlaneSizeBound : Prop :=
  (∀ (s : State) (p : Plane) (o : Nat) (v : Byte), s.params.planeSize ≤ o →
    s.planeRead p o = 0x00 ∧ s.planeWrite p o v = s) ∧
  ∀ (s : State) (a r : Nat), s.params.planeSize = 0x1000000 → s.cfg.windowLen.toNat ≤ s.params.planeSize →
    s.rebase a = some r → r < s.params.planeSize

/-- R255: an MMIO request of no bytes changes no state, signals nothing and returns no bytes. -/
def Obligations.ZeroLengthMmio : Prop :=
  ∀ (s : State) (off : Offset), s.attached = true →
    exec (.mmioW off []) s = .next { s with response := some { rdata := none, status := .ok } } ∧
    exec (.mmioR off 0) s = .next { s with response := some { rdata := some (.mmio []), status := .ok } }

/-- R237, which the spec derives from the write rules: an MMIO write issued twice leaves the plane bytes that issuing it once leaves, in every mode but a planar
write under DRAW. -/
def Obligations.MmioWriteIdempotent : Prop :=
  ∀ (s t : State) (off : Offset) (bytes : List Byte), PlanesInv s.planes →
    (¬ PlanarMode123 s ∨ s.params.writeMode123 ≠ .draw) → exec (.mmioW off bytes) s = .next t →
    ∃ u, exec (.mmioW off bytes) t = .next u ∧ ∀ (q : Plane) (o : Nat), u.planeRead q o = t.planeRead q o

/-- Every plane write is seen by the next MMIO read of the same plane and offset (`20_memory.md` §6, R100, which the
spec derives from R96). First: after an MMIO write, in any mode and under any policy, a read that decodes to a plane and an
offset answers the byte that is there now. Second: for each plane byte of a write decode, that is the byte written, also
after other Sequencer and Graphics registers were set in between (to select its plane for reading). Third: in chain-4 and
odd/even mode, and in planar mode 0 with every bit updated and no Set/Reset, that is the byte of the request. -/
def Obligations.WriteSeenByNextRead : Prop :=
  (∀ (s t : State) (off off' : Offset) (bytes : List Byte) (p : Plane) (r : Nat),
    exec (.mmioW off bytes) s = .next t → off'.toNat < s.cfg.windowLen.toNat →
    s.decodeRead off'.toNat = some (p, r) →
    ∃ u, exec (.mmioR off' 1) t = .next u ∧
      u.response = some { rdata := some (.mmio [t.planeRead p r]), status := .ok }) ∧
  (∀ (s t : State) (off off' : Offset) (v : Byte) (w : WriteDecode) (b : PlaneByte) (seq gr : RegisterBank),
    PlanesInv s.planes → off.toNat < s.cfg.windowLen.toNat → s.decodeWrite off.toNat v = .ok w → b ∈ w.bytes →
    b.offset < s.params.planeSize → exec (.mmioW off [v]) s = .next t → off'.toNat < s.cfg.windowLen.toNat →
    State.decodeRead { t with seq := seq, gr := gr } off'.toNat = some (b.plane, b.offset) →
    ∃ u, exec (.mmioR off' 1) { t with seq := seq, gr := gr } = .next u ∧
      u.response = some { rdata := some (.mmio [b.value]), status := .ok }) ∧
  ∀ (s : State) (off : Offset) (v : Byte) (p : Plane) (r : Nat),
    s.attached = true → PlanesInv s.planes → off.toNat < s.cfg.windowLen.toNat →
    s.decodeRead off.toNat = some (p, r) → s.mapMask.getLsbD p.val = true → r < s.params.planeSize →
    (s.chain4 = true ∨ s.oddEven = true ∨
      (s.writeMode = 0 ∧ s.bitMask = 0xFF ∧ s.enableSetReset = 0x00)) →
    ∃ t, runSteps 2 (s.enqueue [reqMmioW off [v], reqMmioR off 1]) = .next t ∧
      t.response = some { rdata := some (.mmio [v]), status := .ok }

/-! ### Lifecycle -/

/-- R260, with the reset values of R48 to R54: a successful attach sets every state element to its reset value and the
window to the operands; a failed one signals ConfigurationError and changes nothing; an attach while attached is
refused. -/
def Obligations.AttachResetsEverything : Prop :=
  (∀ base length ok, decode { word := 0x80000001, base := base, length := length, attachOk := ok } =
    .ok (.hostAttach base length ok)) ∧
  (∀ (s : State) (base length : BitVec 32) (ok : Bool), s.attached = true →
    exec (.hostAttach base length ok) s = .refused .alreadyAttached) ∧
  (∀ (s : State) (base length : BitVec 32), s.attached = false →
    exec (.hostAttach base length false) s =
      .next { s with response := some { rdata := none, status := .configurationError } }) ∧
  ∀ (s : State) (base length : BitVec 32), s.attached = false →
    exec (.hostAttach base length true) s = .next { s with
      crt := { index := 0, data := Vector.replicate 256 0 }, seq := { index := 0, data := Vector.replicate 256 0 },
      gr := { index := 0, data := Vector.replicate 256 0 },
      attr := { index := 0, data := Vector.replicate 256 0, flip := false },
      dac := {
        palette := Vector.replicate 256 (Vector.replicate 3 0), readIndex := 0, writeIndex := 0, subIndex := 0,
        pending := Vector.replicate 3 0, dacState := 0 },
      misc := { status0 := 0, status1 := 0, feature := 0, output := 0 },
      planes := s.params.initPlanes, latch := Vector.replicate 4 0,
      cfg := { windowBase := base, windowLen := length }, attached := true,
      response := some { rdata := none, status := .ok } }

/-- R261: a failed attach leaves the block detached and everything else as it was, so every guest request is refused
until an attach succeeds, and the host may try again. -/
def Obligations.FailedAttach : Prop :=
  ∀ (s : State) (base length : BitVec 32), s.attached = false →
    ∃ t, exec (.hostAttach base length false) s = .next t ∧
      t = { s with response := some { rdata := none, status := .configurationError } } ∧ t.attached = false ∧
      (∀ i : Instr, i.isGuest = true → exec i t = .refused .notAttached) ∧
      ∀ base' length', ∃ u, exec (.hostAttach base' length' true) t = .next u ∧ u.attached = true

/-- R262: a detach always succeeds; while detached it changes nothing. -/
def Obligations.DetachAlwaysSucceeds : Prop :=
  decode { word := 0x80000002 } = .ok .hostDetach ∧
  (∀ s : State, ∃ t, exec .hostDetach s = .next t ∧ t.attached = false ∧
    t.response = some { rdata := none, status := .ok } ∧
    t.params = s.params ∧ t.requests = s.requests ∧ t.draws = s.draws) ∧
  ∀ s : State, s.attached = false →
    exec .hostDetach s = .next { s with response := some { rdata := none, status := .ok } }

/-- R55: nothing of the block persists across a detach and attach: from any two attached blocks with the same parameters
the result is the same but for the requests pending and the model's own counter. -/
def Obligations.NothingSurvivesDetach : Prop :=
  ∀ (s s' : State) (base length : BitVec 32), s.attached = true → s'.attached = true → s.params = s'.params →
    ∃ t u t' u', exec .hostDetach s = .next t ∧ exec (.hostAttach base length true) t = .next u ∧
      exec .hostDetach s' = .next t' ∧ exec (.hostAttach base length true) t' = .next u' ∧
      u' = { u with requests := s'.requests, draws := s'.draws }

/-- R263: the diagnostic read returns the DAC state marker and changes nothing; while detached it is refused. -/
def Obligations.DiagReadsMarker : Prop :=
  decode { word := 0x80000003 } = .ok .hostDiag ∧
  (∀ s : State, s.attached = false → exec .hostDiag s = .refused .notAttached) ∧
  ∀ s : State, s.attached = true →
    exec .hostDiag s = .next { s with response := some { rdata := some (.diag s.dac.dacState), status := .ok } }

/-- R39: the DAC state marker is 0 after a write of the write index and 3 after a write of the read index, and the host
reads it with HOST.DIAG. It has no other effect: with another value in it, every request but HOST.DIAG does the same
and responds the same, but for the marker itself. -/
def Obligations.DacStateHasNoFurtherEffect : Prop :=
  (∀ (s : State) (v : Byte), s.attached = true →
    (∃ t, exec (.outDacwi (.b8 v)) s = .next t ∧ t.dac.dacState = 0) ∧
    (∃ t, exec (.outDacri (.b8 v)) s = .next t ∧ t.dac.dacState = 3) ∧
    (∃ t, exec .hostDiag s = .next t ∧
      t.response = some { rdata := some (.diag s.dac.dacState), status := .ok })) ∧
  ∀ (i : Instr) (s t : State) (x : Byte), i ≠ .hostDiag → exec i s = .next t →
    ∃ y, exec i { s with dac := { s.dac with dacState := x } } = .next { t with dac := { t.dac with dacState := y } }

/-- No guest request reaches the window, the lifecycle or the parameters (`60_exceptions.md` §6). -/
def Obligations.GuestKeepsConfiguration : Prop :=
  ∀ (i : Instr) (s t : State), i.isGuest = true → exec i s = .next t →
    t.cfg = s.cfg ∧ t.attached = s.attached ∧ t.params = s.params ∧ t.requests = s.requests

/-- The values of R48 to R51, R53 and R54 in State.reset, which is the state after an attach with the legacy window (the
model's reading of R330 and R54, log entry 6). -/
def Obligations.ResetValues : Prop :=
  (∀ i : Byte, State.reset.crt.slot i = 0 ∧ State.reset.seq.slot i = 0 ∧ State.reset.gr.slot i = 0) ∧
  (State.reset.crt.index = 0 ∧ State.reset.seq.index = 0 ∧ State.reset.gr.index = 0) ∧
  (State.reset.attr.index = 0 ∧ State.reset.attr.flip = false ∧ ∀ i : Fin 256, State.reset.attr.data[i] = 0) ∧
  ((∀ (e : Fin 256) (c : Fin 3), State.reset.dac.palette[e][c] = 0) ∧ State.reset.dac.readIndex = 0 ∧
    State.reset.dac.writeIndex = 0 ∧ State.reset.dac.subIndex = 0 ∧ (∀ c : Fin 3, State.reset.dac.pending[c] = 0) ∧
    State.reset.dac.dacState = 0) ∧
  (State.reset.misc.status0 = 0 ∧ State.reset.misc.status1 = 0 ∧ State.reset.misc.feature = 0 ∧
    State.reset.misc.output = 0) ∧
  (∀ q : Plane, State.reset.latch[q] = 0) ∧
  (State.reset.cfg.windowBase = 0xA0000 ∧ State.reset.cfg.windowLen = 0x20000 ∧ State.reset.attached = true)

/-! ### The invariant -/

/-- Every step keeps the invariant: the attribute index holds 6 bits and its registers only bits their masks keep (the
masks' indices 0x10 to 0x14: log entry 15), the palette and the pending bytes hold 6 bits, the marker is 0 or 3, the
status bytes and output bit 4 are 0, the planes are in canonical form, and a detached block holds nothing (the model's
choice, log entry 7). -/
def Obligations.EveryStepKeepsTheInvariant : Prop :=
  ∀ s t : State, Inv s → step s = .next t → Inv t

/-- The invariant holds after reset (State.reset: log entries 4 and 6). -/
def Obligations.ResetMeetsTheInvariant : Prop := Inv State.reset

end
end

