-- ==== Sys2Proof/Laws/Decode.lean ====
section
/-! SUPPORT. The fields of the words the encoder writes, and so what the decoder reads from them. -/

namespace Sys2Proof.Laws

theorem fieldSpace_ioWord (dir : BitVec 1) (port : Port) (size : IoSize) : fieldSpace (ioWord dir port size) = 0 := by
  unfold fieldSpace ioWord
  rw [BitVec.extractLsb'_append_eq_of_le (by decide), BitVec.extractLsb'_append_eq_of_le (by decide),
    BitVec.extractLsb'_append_eq_of_le (by decide), BitVec.extractLsb'_append_eq_of_le (by decide)]
  rfl

theorem fieldIoReserved_ioWord (dir : BitVec 1) (port : Port) (size : IoSize) :
    fieldIoReserved (ioWord dir port size) = 0 := by
  unfold fieldIoReserved ioWord
  rw [BitVec.extractLsb'_append_eq_of_le (by decide), BitVec.extractLsb'_append_eq_of_le (by decide),
    BitVec.extractLsb'_append_eq_of_add_le (by decide)]
  rfl

theorem fieldSz_ioWord (dir : BitVec 1) (port : Port) (size : IoSize) :
    fieldSz (ioWord dir port size) = encodeSize size := by
  unfold fieldSz ioWord
  rw [BitVec.extractLsb'_append_eq_of_le (by decide), BitVec.extractLsb'_append_eq_of_add_le (by decide)]
  cases size <;> rfl

theorem fieldPort_ioWord (dir : BitVec 1) (port : Port) (size : IoSize) : fieldPort (ioWord dir port size) = port := by
  unfold fieldPort ioWord
  rw [BitVec.extractLsb'_append_eq_of_add_le (by decide)]
  exact BitVec.extractLsb'_eq_self

theorem fieldDir_ioWord (dir : BitVec 1) (port : Port) (size : IoSize) :
    fieldDir (ioWord dir port size) = dir.getLsbD 0 := by
  unfold fieldDir ioWord
  simp only [BitVec.getLsbD_append]
  rfl

@[simp] theorem decodeSize_encodeSize (size : IoSize) : decodeSize (encodeSize size) = some size := by
  cases size <;> rfl

@[simp] theorem decodeData_encodeData (d : IoData) : decodeData d.size (encodeData d) = d := by
  cases d <;> simp [decodeData, encodeData, IoData.size]

/-- The decoder reads an encoded IN as the IN operation of its port. -/
theorem decode_encodeIn (port : Port) (size : IoSize) : decode (encodeIn port size) = .ok (decodeIn port size) := by
  unfold decode decodeIo encodeIn
  simp [fieldSpace_ioWord, fieldIoReserved_ioWord, fieldSz_ioWord, fieldDir_ioWord, fieldPort_ioWord]

/-- The decoder reads an encoded OUT as the OUT operation of its port, with the value written. -/
theorem decode_encodeOut (port : Port) (d : IoData) : decode (encodeOut port d) = .ok (decodeOut port d) := by
  unfold decode decodeIo encodeOut
  simp [fieldSpace_ioWord, fieldIoReserved_ioWord, fieldSz_ioWord, fieldDir_ioWord, fieldPort_ioWord]

theorem fieldSpace_mmioWord (dir : BitVec 1) (off : Offset) : fieldSpace (mmioWord dir off) = 1 := by
  unfold fieldSpace mmioWord
  rw [BitVec.extractLsb'_append_eq_of_le (by decide), BitVec.extractLsb'_append_eq_of_le (by decide)]
  rfl

theorem fieldDir_mmioWord (dir : BitVec 1) (off : Offset) : fieldDir (mmioWord dir off) = dir.getLsbD 0 := by
  unfold fieldDir mmioWord
  simp only [BitVec.getLsbD_append]
  rfl

theorem fieldOff_mmioWord (dir : BitVec 1) (off : Offset) : fieldOff (mmioWord dir off) = off := by
  unfold fieldOff mmioWord
  rw [BitVec.extractLsb'_append_eq_of_add_le (by decide)]
  exact BitVec.extractLsb'_eq_self

/-- The decoder reads an encoded MMIO write with its offset and bytes. -/
theorem decode_encodeMmioW (off : Offset) (bytes : List Byte) :
    decode (encode (.mmioW off bytes)) = .ok (.mmioW off bytes) := by
  unfold decode decodeMmio encode
  simp [fieldSpace_mmioWord, fieldDir_mmioWord, fieldOff_mmioWord]

/-- The decoder reads an encoded MMIO read with its offset and length. -/
theorem decode_encodeMmioR (off : Offset) (len : Nat) : decode (encode (.mmioR off len)) = .ok (.mmioR off len) := by
  unfold decode decodeMmio encode
  simp [fieldSpace_mmioWord, fieldDir_mmioWord, fieldOff_mmioWord]

/-- What the decoder reads from a HOST word with dir 0 and the reserved bits 0. -/
theorem decode_hostWord {r : Request} {op : BitVec 8} (hw : r.word = encodeHostWord op) :
    decode r =
      if op = 0x01#8 then .ok (.hostAttach r.base r.length r.attachOk)
      else if op = 0x02#8 then .ok .hostDetach
      else if op = 0x03#8 then .ok .hostDiag
      else .error .hostOp := by
  have hs : fieldSpace (encodeHostWord op) = 2 := by
    unfold fieldSpace encodeHostWord
    rw [BitVec.extractLsb'_append_eq_of_le (by decide), BitVec.extractLsb'_append_eq_of_le (by decide),
      BitVec.extractLsb'_append_eq_of_le (by decide)]
    rfl
  have hd : fieldDir (encodeHostWord op) = false := by
    unfold fieldDir encodeHostWord
    simp only [BitVec.getLsbD_append]
    rfl
  have hr : fieldHostReserved (encodeHostWord op) = 0 := by
    unfold fieldHostReserved encodeHostWord
    rw [BitVec.extractLsb'_append_eq_of_le (by decide), BitVec.extractLsb'_append_eq_of_add_le (by decide)]
    rfl
  have ho : fieldHostop (encodeHostWord op) = op := by
    unfold fieldHostop encodeHostWord
    rw [BitVec.extractLsb'_append_eq_of_add_le (by decide)]
    exact BitVec.extractLsb'_eq_self
  unfold decode decodeHost
  simp [hw, hs, hd, hr, ho]

end Sys2Proof.Laws
end

