-- ==== Sys2Proof/Laws/State.lean ====
section
/-! SUPPORT. One lemma per field per update of the state, so that no proof unfolds a record update. -/

namespace Sys2Proof.Laws

open Sys2Proof.Machine

/-! ### respond -/

@[simp] theorem respond_crt (s : State) (d : Option ReadData) (st : Status) : (s.respond d st).crt = s.crt := rfl
@[simp] theorem respond_seq (s : State) (d : Option ReadData) (st : Status) : (s.respond d st).seq = s.seq := rfl
@[simp] theorem respond_gr (s : State) (d : Option ReadData) (st : Status) : (s.respond d st).gr = s.gr := rfl
@[simp] theorem respond_attr (s : State) (d : Option ReadData) (st : Status) : (s.respond d st).attr = s.attr := rfl
@[simp] theorem respond_dac (s : State) (d : Option ReadData) (st : Status) : (s.respond d st).dac = s.dac := rfl
@[simp] theorem respond_misc (s : State) (d : Option ReadData) (st : Status) : (s.respond d st).misc = s.misc := rfl
@[simp] theorem respond_planes (s : State) (d : Option ReadData) (st : Status) : (s.respond d st).planes = s.planes := rfl
@[simp] theorem respond_latch (s : State) (d : Option ReadData) (st : Status) : (s.respond d st).latch = s.latch := rfl
@[simp] theorem respond_cfg (s : State) (d : Option ReadData) (st : Status) : (s.respond d st).cfg = s.cfg := rfl
@[simp] theorem respond_attached (s : State) (d : Option ReadData) (st : Status) : (s.respond d st).attached = s.attached := rfl
@[simp] theorem respond_params (s : State) (d : Option ReadData) (st : Status) : (s.respond d st).params = s.params := rfl
@[simp] theorem respond_requests (s : State) (d : Option ReadData) (st : Status) : (s.respond d st).requests = s.requests := rfl
@[simp] theorem respond_response (s : State) (d : Option ReadData) (st : Status) : (s.respond d st).response = some { rdata := d, status := st } := rfl
@[simp] theorem respond_draws (s : State) (d : Option ReadData) (st : Status) : (s.respond d st).draws = s.draws := rfl

/-! ### accept -/

@[simp] theorem accept_crt (s : State) (r : List Arrival) : (s.accept r).crt = s.crt := rfl
@[simp] theorem accept_seq (s : State) (r : List Arrival) : (s.accept r).seq = s.seq := rfl
@[simp] theorem accept_gr (s : State) (r : List Arrival) : (s.accept r).gr = s.gr := rfl
@[simp] theorem accept_attr (s : State) (r : List Arrival) : (s.accept r).attr = s.attr := rfl
@[simp] theorem accept_dac (s : State) (r : List Arrival) : (s.accept r).dac = s.dac := rfl
@[simp] theorem accept_misc (s : State) (r : List Arrival) : (s.accept r).misc = s.misc := rfl
@[simp] theorem accept_planes (s : State) (r : List Arrival) : (s.accept r).planes = s.planes := rfl
@[simp] theorem accept_latch (s : State) (r : List Arrival) : (s.accept r).latch = s.latch := rfl
@[simp] theorem accept_cfg (s : State) (r : List Arrival) : (s.accept r).cfg = s.cfg := rfl
@[simp] theorem accept_attached (s : State) (r : List Arrival) : (s.accept r).attached = s.attached := rfl
@[simp] theorem accept_params (s : State) (r : List Arrival) : (s.accept r).params = s.params := rfl
@[simp] theorem accept_requests (s : State) (r : List Arrival) : (s.accept r).requests = r := rfl
@[simp] theorem accept_response (s : State) (r : List Arrival) : (s.accept r).response = s.response := rfl
@[simp] theorem accept_draws (s : State) (r : List Arrival) : (s.accept r).draws = s.draws := rfl

/-! ### enqueue -/

@[simp] theorem enqueue_crt (s : State) (rs : List Request) : (s.enqueue rs).crt = s.crt := rfl
@[simp] theorem enqueue_seq (s : State) (rs : List Request) : (s.enqueue rs).seq = s.seq := rfl
@[simp] theorem enqueue_gr (s : State) (rs : List Request) : (s.enqueue rs).gr = s.gr := rfl
@[simp] theorem enqueue_attr (s : State) (rs : List Request) : (s.enqueue rs).attr = s.attr := rfl
@[simp] theorem enqueue_dac (s : State) (rs : List Request) : (s.enqueue rs).dac = s.dac := rfl
@[simp] theorem enqueue_misc (s : State) (rs : List Request) : (s.enqueue rs).misc = s.misc := rfl
@[simp] theorem enqueue_planes (s : State) (rs : List Request) : (s.enqueue rs).planes = s.planes := rfl
@[simp] theorem enqueue_latch (s : State) (rs : List Request) : (s.enqueue rs).latch = s.latch := rfl
@[simp] theorem enqueue_cfg (s : State) (rs : List Request) : (s.enqueue rs).cfg = s.cfg := rfl
@[simp] theorem enqueue_attached (s : State) (rs : List Request) : (s.enqueue rs).attached = s.attached := rfl
@[simp] theorem enqueue_params (s : State) (rs : List Request) : (s.enqueue rs).params = s.params := rfl
@[simp] theorem enqueue_requests (s : State) (rs : List Request) : (s.enqueue rs).requests = rs.map (fun r => { req := r }) ++ s.requests := rfl
@[simp] theorem enqueue_response (s : State) (rs : List Request) : (s.enqueue rs).response = s.response := rfl
@[simp] theorem enqueue_draws (s : State) (rs : List Request) : (s.enqueue rs).draws = s.draws := rfl

/-! ### attachReset -/

@[simp] theorem attachReset_crt (s : State) (b l : BitVec 32) : (s.attachReset b l).crt = RegisterBank.zero := rfl
@[simp] theorem attachReset_seq (s : State) (b l : BitVec 32) : (s.attachReset b l).seq = RegisterBank.zero := rfl
@[simp] theorem attachReset_gr (s : State) (b l : BitVec 32) : (s.attachReset b l).gr = RegisterBank.zero := rfl
@[simp] theorem attachReset_attr (s : State) (b l : BitVec 32) : (s.attachReset b l).attr = AttributeLatch.zero := rfl
@[simp] theorem attachReset_dac (s : State) (b l : BitVec 32) : (s.attachReset b l).dac = DacPalette.zero := rfl
@[simp] theorem attachReset_misc (s : State) (b l : BitVec 32) : (s.attachReset b l).misc = MiscRegisters.zero := rfl
@[simp] theorem attachReset_planes (s : State) (b l : BitVec 32) : (s.attachReset b l).planes = s.params.initPlanes := rfl
@[simp] theorem attachReset_latch (s : State) (b l : BitVec 32) : (s.attachReset b l).latch = Vector.replicate 4 0 := rfl
@[simp] theorem attachReset_cfg (s : State) (b l : BitVec 32) : (s.attachReset b l).cfg = { windowBase := b, windowLen := l } := rfl
@[simp] theorem attachReset_attached (s : State) (b l : BitVec 32) : (s.attachReset b l).attached = true := rfl
@[simp] theorem attachReset_params (s : State) (b l : BitVec 32) : (s.attachReset b l).params = s.params := rfl
@[simp] theorem attachReset_requests (s : State) (b l : BitVec 32) : (s.attachReset b l).requests = s.requests := rfl
@[simp] theorem attachReset_response (s : State) (b l : BitVec 32) : (s.attachReset b l).response = s.response := rfl
@[simp] theorem attachReset_draws (s : State) (b l : BitVec 32) : (s.attachReset b l).draws = s.draws := rfl

/-! ### discard -/

@[simp] theorem discard_crt (s : State) : (s.discard).crt = RegisterBank.zero := rfl
@[simp] theorem discard_seq (s : State) : (s.discard).seq = RegisterBank.zero := rfl
@[simp] theorem discard_gr (s : State) : (s.discard).gr = RegisterBank.zero := rfl
@[simp] theorem discard_attr (s : State) : (s.discard).attr = AttributeLatch.zero := rfl
@[simp] theorem discard_dac (s : State) : (s.discard).dac = DacPalette.zero := rfl
@[simp] theorem discard_misc (s : State) : (s.discard).misc = MiscRegisters.zero := rfl
@[simp] theorem discard_planes (s : State) : (s.discard).planes = Vector.replicate 4 [] := rfl
@[simp] theorem discard_latch (s : State) : (s.discard).latch = Vector.replicate 4 0 := rfl
@[simp] theorem discard_cfg (s : State) : (s.discard).cfg = { windowBase := 0, windowLen := 0 } := rfl
@[simp] theorem discard_attached (s : State) : (s.discard).attached = false := rfl
@[simp] theorem discard_params (s : State) : (s.discard).params = s.params := rfl
@[simp] theorem discard_requests (s : State) : (s.discard).requests = s.requests := rfl
@[simp] theorem discard_response (s : State) : (s.discard).response = s.response := rfl
@[simp] theorem discard_draws (s : State) : (s.discard).draws = s.draws := rfl

/-! ### planeWrite -/

@[simp] theorem planeWrite_crt (s : State) (p : Plane) (o : Nat) (v : Byte) : (s.planeWrite p o v).crt = s.crt := by unfold State.planeWrite; split <;> rfl
@[simp] theorem planeWrite_seq (s : State) (p : Plane) (o : Nat) (v : Byte) : (s.planeWrite p o v).seq = s.seq := by unfold State.planeWrite; split <;> rfl
@[simp] theorem planeWrite_gr (s : State) (p : Plane) (o : Nat) (v : Byte) : (s.planeWrite p o v).gr = s.gr := by unfold State.planeWrite; split <;> rfl
@[simp] theorem planeWrite_attr (s : State) (p : Plane) (o : Nat) (v : Byte) : (s.planeWrite p o v).attr = s.attr := by unfold State.planeWrite; split <;> rfl
@[simp] theorem planeWrite_dac (s : State) (p : Plane) (o : Nat) (v : Byte) : (s.planeWrite p o v).dac = s.dac := by unfold State.planeWrite; split <;> rfl
@[simp] theorem planeWrite_misc (s : State) (p : Plane) (o : Nat) (v : Byte) : (s.planeWrite p o v).misc = s.misc := by unfold State.planeWrite; split <;> rfl
@[simp] theorem planeWrite_latch (s : State) (p : Plane) (o : Nat) (v : Byte) : (s.planeWrite p o v).latch = s.latch := by unfold State.planeWrite; split <;> rfl
@[simp] theorem planeWrite_cfg (s : State) (p : Plane) (o : Nat) (v : Byte) : (s.planeWrite p o v).cfg = s.cfg := by unfold State.planeWrite; split <;> rfl
@[simp] theorem planeWrite_attached (s : State) (p : Plane) (o : Nat) (v : Byte) : (s.planeWrite p o v).attached = s.attached := by unfold State.planeWrite; split <;> rfl
@[simp] theorem planeWrite_params (s : State) (p : Plane) (o : Nat) (v : Byte) : (s.planeWrite p o v).params = s.params := by unfold State.planeWrite; split <;> rfl
@[simp] theorem planeWrite_requests (s : State) (p : Plane) (o : Nat) (v : Byte) : (s.planeWrite p o v).requests = s.requests := by unfold State.planeWrite; split <;> rfl
@[simp] theorem planeWrite_response (s : State) (p : Plane) (o : Nat) (v : Byte) : (s.planeWrite p o v).response = s.response := by unfold State.planeWrite; split <;> rfl
@[simp] theorem planeWrite_draws (s : State) (p : Plane) (o : Nat) (v : Byte) : (s.planeWrite p o v).draws = s.draws := by unfold State.planeWrite; split <;> rfl

/-! ### loadLatches -/

@[simp] theorem loadLatches_crt (s : State) (o : Nat) : (s.loadLatches o).crt = s.crt := rfl
@[simp] theorem loadLatches_seq (s : State) (o : Nat) : (s.loadLatches o).seq = s.seq := rfl
@[simp] theorem loadLatches_gr (s : State) (o : Nat) : (s.loadLatches o).gr = s.gr := rfl
@[simp] theorem loadLatches_attr (s : State) (o : Nat) : (s.loadLatches o).attr = s.attr := rfl
@[simp] theorem loadLatches_dac (s : State) (o : Nat) : (s.loadLatches o).dac = s.dac := rfl
@[simp] theorem loadLatches_misc (s : State) (o : Nat) : (s.loadLatches o).misc = s.misc := rfl
@[simp] theorem loadLatches_planes (s : State) (o : Nat) : (s.loadLatches o).planes = s.planes := rfl
@[simp] theorem loadLatches_latch (s : State) (o : Nat) : (s.loadLatches o).latch = Vector.ofFn fun q => s.planeRead q o := rfl
@[simp] theorem loadLatches_cfg (s : State) (o : Nat) : (s.loadLatches o).cfg = s.cfg := rfl
@[simp] theorem loadLatches_attached (s : State) (o : Nat) : (s.loadLatches o).attached = s.attached := rfl
@[simp] theorem loadLatches_params (s : State) (o : Nat) : (s.loadLatches o).params = s.params := rfl
@[simp] theorem loadLatches_requests (s : State) (o : Nat) : (s.loadLatches o).requests = s.requests := rfl
@[simp] theorem loadLatches_response (s : State) (o : Nat) : (s.loadLatches o).response = s.response := rfl
@[simp] theorem loadLatches_draws (s : State) (o : Nat) : (s.loadLatches o).draws = s.draws := rfl

/-! ### opOutCrti -/

@[simp] theorem opOutCrti_crt (s : State) (v : Byte) : (opOutCrti v s).crt = s.crt.writeIndex v := rfl
@[simp] theorem opOutCrti_seq (s : State) (v : Byte) : (opOutCrti v s).seq = s.seq := rfl
@[simp] theorem opOutCrti_gr (s : State) (v : Byte) : (opOutCrti v s).gr = s.gr := rfl
@[simp] theorem opOutCrti_attr (s : State) (v : Byte) : (opOutCrti v s).attr = s.attr := rfl
@[simp] theorem opOutCrti_dac (s : State) (v : Byte) : (opOutCrti v s).dac = s.dac := rfl
@[simp] theorem opOutCrti_misc (s : State) (v : Byte) : (opOutCrti v s).misc = s.misc := rfl
@[simp] theorem opOutCrti_planes (s : State) (v : Byte) : (opOutCrti v s).planes = s.planes := rfl
@[simp] theorem opOutCrti_latch (s : State) (v : Byte) : (opOutCrti v s).latch = s.latch := rfl
@[simp] theorem opOutCrti_cfg (s : State) (v : Byte) : (opOutCrti v s).cfg = s.cfg := rfl
@[simp] theorem opOutCrti_attached (s : State) (v : Byte) : (opOutCrti v s).attached = s.attached := rfl
@[simp] theorem opOutCrti_params (s : State) (v : Byte) : (opOutCrti v s).params = s.params := rfl
@[simp] theorem opOutCrti_requests (s : State) (v : Byte) : (opOutCrti v s).requests = s.requests := rfl
@[simp] theorem opOutCrti_response (s : State) (v : Byte) : (opOutCrti v s).response = s.response := rfl
@[simp] theorem opOutCrti_draws (s : State) (v : Byte) : (opOutCrti v s).draws = s.draws := rfl

/-! ### opOutCrtd -/

@[simp] theorem opOutCrtd_crt (s : State) (v : Byte) : (opOutCrtd v s).crt = s.crt.writeData v := rfl
@[simp] theorem opOutCrtd_seq (s : State) (v : Byte) : (opOutCrtd v s).seq = s.seq := rfl
@[simp] theorem opOutCrtd_gr (s : State) (v : Byte) : (opOutCrtd v s).gr = s.gr := rfl
@[simp] theorem opOutCrtd_attr (s : State) (v : Byte) : (opOutCrtd v s).attr = s.attr := rfl
@[simp] theorem opOutCrtd_dac (s : State) (v : Byte) : (opOutCrtd v s).dac = s.dac := rfl
@[simp] theorem opOutCrtd_misc (s : State) (v : Byte) : (opOutCrtd v s).misc = s.misc := rfl
@[simp] theorem opOutCrtd_planes (s : State) (v : Byte) : (opOutCrtd v s).planes = s.planes := rfl
@[simp] theorem opOutCrtd_latch (s : State) (v : Byte) : (opOutCrtd v s).latch = s.latch := rfl
@[simp] theorem opOutCrtd_cfg (s : State) (v : Byte) : (opOutCrtd v s).cfg = s.cfg := rfl
@[simp] theorem opOutCrtd_attached (s : State) (v : Byte) : (opOutCrtd v s).attached = s.attached := rfl
@[simp] theorem opOutCrtd_params (s : State) (v : Byte) : (opOutCrtd v s).params = s.params := rfl
@[simp] theorem opOutCrtd_requests (s : State) (v : Byte) : (opOutCrtd v s).requests = s.requests := rfl
@[simp] theorem opOutCrtd_response (s : State) (v : Byte) : (opOutCrtd v s).response = s.response := rfl
@[simp] theorem opOutCrtd_draws (s : State) (v : Byte) : (opOutCrtd v s).draws = s.draws := rfl

/-! ### opOutSeqi -/

@[simp] theorem opOutSeqi_crt (s : State) (v : Byte) : (opOutSeqi v s).crt = s.crt := rfl
@[simp] theorem opOutSeqi_seq (s : State) (v : Byte) : (opOutSeqi v s).seq = s.seq.writeIndex v := rfl
@[simp] theorem opOutSeqi_gr (s : State) (v : Byte) : (opOutSeqi v s).gr = s.gr := rfl
@[simp] theorem opOutSeqi_attr (s : State) (v : Byte) : (opOutSeqi v s).attr = s.attr := rfl
@[simp] theorem opOutSeqi_dac (s : State) (v : Byte) : (opOutSeqi v s).dac = s.dac := rfl
@[simp] theorem opOutSeqi_misc (s : State) (v : Byte) : (opOutSeqi v s).misc = s.misc := rfl
@[simp] theorem opOutSeqi_planes (s : State) (v : Byte) : (opOutSeqi v s).planes = s.planes := rfl
@[simp] theorem opOutSeqi_latch (s : State) (v : Byte) : (opOutSeqi v s).latch = s.latch := rfl
@[simp] theorem opOutSeqi_cfg (s : State) (v : Byte) : (opOutSeqi v s).cfg = s.cfg := rfl
@[simp] theorem opOutSeqi_attached (s : State) (v : Byte) : (opOutSeqi v s).attached = s.attached := rfl
@[simp] theorem opOutSeqi_params (s : State) (v : Byte) : (opOutSeqi v s).params = s.params := rfl
@[simp] theorem opOutSeqi_requests (s : State) (v : Byte) : (opOutSeqi v s).requests = s.requests := rfl
@[simp] theorem opOutSeqi_response (s : State) (v : Byte) : (opOutSeqi v s).response = s.response := rfl
@[simp] theorem opOutSeqi_draws (s : State) (v : Byte) : (opOutSeqi v s).draws = s.draws := rfl

/-! ### opOutSeqd -/

@[simp] theorem opOutSeqd_crt (s : State) (v : Byte) : (opOutSeqd v s).crt = s.crt := rfl
@[simp] theorem opOutSeqd_seq (s : State) (v : Byte) : (opOutSeqd v s).seq = s.seq.writeData v := rfl
@[simp] theorem opOutSeqd_gr (s : State) (v : Byte) : (opOutSeqd v s).gr = s.gr := rfl
@[simp] theorem opOutSeqd_attr (s : State) (v : Byte) : (opOutSeqd v s).attr = s.attr := rfl
@[simp] theorem opOutSeqd_dac (s : State) (v : Byte) : (opOutSeqd v s).dac = s.dac := rfl
@[simp] theorem opOutSeqd_misc (s : State) (v : Byte) : (opOutSeqd v s).misc = s.misc := rfl
@[simp] theorem opOutSeqd_planes (s : State) (v : Byte) : (opOutSeqd v s).planes = s.planes := rfl
@[simp] theorem opOutSeqd_latch (s : State) (v : Byte) : (opOutSeqd v s).latch = s.latch := rfl
@[simp] theorem opOutSeqd_cfg (s : State) (v : Byte) : (opOutSeqd v s).cfg = s.cfg := rfl
@[simp] theorem opOutSeqd_attached (s : State) (v : Byte) : (opOutSeqd v s).attached = s.attached := rfl
@[simp] theorem opOutSeqd_params (s : State) (v : Byte) : (opOutSeqd v s).params = s.params := rfl
@[simp] theorem opOutSeqd_requests (s : State) (v : Byte) : (opOutSeqd v s).requests = s.requests := rfl
@[simp] theorem opOutSeqd_response (s : State) (v : Byte) : (opOutSeqd v s).response = s.response := rfl
@[simp] theorem opOutSeqd_draws (s : State) (v : Byte) : (opOutSeqd v s).draws = s.draws := rfl

/-! ### opOutGri -/

@[simp] theorem opOutGri_crt (s : State) (v : Byte) : (opOutGri v s).crt = s.crt := rfl
@[simp] theorem opOutGri_seq (s : State) (v : Byte) : (opOutGri v s).seq = s.seq := rfl
@[simp] theorem opOutGri_gr (s : State) (v : Byte) : (opOutGri v s).gr = s.gr.writeIndex v := rfl
@[simp] theorem opOutGri_attr (s : State) (v : Byte) : (opOutGri v s).attr = s.attr := rfl
@[simp] theorem opOutGri_dac (s : State) (v : Byte) : (opOutGri v s).dac = s.dac := rfl
@[simp] theorem opOutGri_misc (s : State) (v : Byte) : (opOutGri v s).misc = s.misc := rfl
@[simp] theorem opOutGri_planes (s : State) (v : Byte) : (opOutGri v s).planes = s.planes := rfl
@[simp] theorem opOutGri_latch (s : State) (v : Byte) : (opOutGri v s).latch = s.latch := rfl
@[simp] theorem opOutGri_cfg (s : State) (v : Byte) : (opOutGri v s).cfg = s.cfg := rfl
@[simp] theorem opOutGri_attached (s : State) (v : Byte) : (opOutGri v s).attached = s.attached := rfl
@[simp] theorem opOutGri_params (s : State) (v : Byte) : (opOutGri v s).params = s.params := rfl
@[simp] theorem opOutGri_requests (s : State) (v : Byte) : (opOutGri v s).requests = s.requests := rfl
@[simp] theorem opOutGri_response (s : State) (v : Byte) : (opOutGri v s).response = s.response := rfl
@[simp] theorem opOutGri_draws (s : State) (v : Byte) : (opOutGri v s).draws = s.draws := rfl

/-! ### opOutGrd -/

@[simp] theorem opOutGrd_crt (s : State) (v : Byte) : (opOutGrd v s).crt = s.crt := rfl
@[simp] theorem opOutGrd_seq (s : State) (v : Byte) : (opOutGrd v s).seq = s.seq := rfl
@[simp] theorem opOutGrd_gr (s : State) (v : Byte) : (opOutGrd v s).gr = s.gr.writeData v := rfl
@[simp] theorem opOutGrd_attr (s : State) (v : Byte) : (opOutGrd v s).attr = s.attr := rfl
@[simp] theorem opOutGrd_dac (s : State) (v : Byte) : (opOutGrd v s).dac = s.dac := rfl
@[simp] theorem opOutGrd_misc (s : State) (v : Byte) : (opOutGrd v s).misc = s.misc := rfl
@[simp] theorem opOutGrd_planes (s : State) (v : Byte) : (opOutGrd v s).planes = s.planes := rfl
@[simp] theorem opOutGrd_latch (s : State) (v : Byte) : (opOutGrd v s).latch = s.latch := rfl
@[simp] theorem opOutGrd_cfg (s : State) (v : Byte) : (opOutGrd v s).cfg = s.cfg := rfl
@[simp] theorem opOutGrd_attached (s : State) (v : Byte) : (opOutGrd v s).attached = s.attached := rfl
@[simp] theorem opOutGrd_params (s : State) (v : Byte) : (opOutGrd v s).params = s.params := rfl
@[simp] theorem opOutGrd_requests (s : State) (v : Byte) : (opOutGrd v s).requests = s.requests := rfl
@[simp] theorem opOutGrd_response (s : State) (v : Byte) : (opOutGrd v s).response = s.response := rfl
@[simp] theorem opOutGrd_draws (s : State) (v : Byte) : (opOutGrd v s).draws = s.draws := rfl

/-! ### opOutDacri -/

@[simp] theorem opOutDacri_crt (s : State) (v : Byte) : (opOutDacri v s).crt = s.crt := rfl
@[simp] theorem opOutDacri_seq (s : State) (v : Byte) : (opOutDacri v s).seq = s.seq := rfl
@[simp] theorem opOutDacri_gr (s : State) (v : Byte) : (opOutDacri v s).gr = s.gr := rfl
@[simp] theorem opOutDacri_attr (s : State) (v : Byte) : (opOutDacri v s).attr = s.attr := rfl
@[simp] theorem opOutDacri_dac (s : State) (v : Byte) : (opOutDacri v s).dac = s.dac.setReadIndex v := rfl
@[simp] theorem opOutDacri_misc (s : State) (v : Byte) : (opOutDacri v s).misc = s.misc := rfl
@[simp] theorem opOutDacri_planes (s : State) (v : Byte) : (opOutDacri v s).planes = s.planes := rfl
@[simp] theorem opOutDacri_latch (s : State) (v : Byte) : (opOutDacri v s).latch = s.latch := rfl
@[simp] theorem opOutDacri_cfg (s : State) (v : Byte) : (opOutDacri v s).cfg = s.cfg := rfl
@[simp] theorem opOutDacri_attached (s : State) (v : Byte) : (opOutDacri v s).attached = s.attached := rfl
@[simp] theorem opOutDacri_params (s : State) (v : Byte) : (opOutDacri v s).params = s.params := rfl
@[simp] theorem opOutDacri_requests (s : State) (v : Byte) : (opOutDacri v s).requests = s.requests := rfl
@[simp] theorem opOutDacri_response (s : State) (v : Byte) : (opOutDacri v s).response = s.response := rfl
@[simp] theorem opOutDacri_draws (s : State) (v : Byte) : (opOutDacri v s).draws = s.draws := rfl

/-! ### opOutDacwi -/

@[simp] theorem opOutDacwi_crt (s : State) (v : Byte) : (opOutDacwi v s).crt = s.crt := rfl
@[simp] theorem opOutDacwi_seq (s : State) (v : Byte) : (opOutDacwi v s).seq = s.seq := rfl
@[simp] theorem opOutDacwi_gr (s : State) (v : Byte) : (opOutDacwi v s).gr = s.gr := rfl
@[simp] theorem opOutDacwi_attr (s : State) (v : Byte) : (opOutDacwi v s).attr = s.attr := rfl
@[simp] theorem opOutDacwi_dac (s : State) (v : Byte) : (opOutDacwi v s).dac = s.dac.setWriteIndex v := rfl
@[simp] theorem opOutDacwi_misc (s : State) (v : Byte) : (opOutDacwi v s).misc = s.misc := rfl
@[simp] theorem opOutDacwi_planes (s : State) (v : Byte) : (opOutDacwi v s).planes = s.planes := rfl
@[simp] theorem opOutDacwi_latch (s : State) (v : Byte) : (opOutDacwi v s).latch = s.latch := rfl
@[simp] theorem opOutDacwi_cfg (s : State) (v : Byte) : (opOutDacwi v s).cfg = s.cfg := rfl
@[simp] theorem opOutDacwi_attached (s : State) (v : Byte) : (opOutDacwi v s).attached = s.attached := rfl
@[simp] theorem opOutDacwi_params (s : State) (v : Byte) : (opOutDacwi v s).params = s.params := rfl
@[simp] theorem opOutDacwi_requests (s : State) (v : Byte) : (opOutDacwi v s).requests = s.requests := rfl
@[simp] theorem opOutDacwi_response (s : State) (v : Byte) : (opOutDacwi v s).response = s.response := rfl
@[simp] theorem opOutDacwi_draws (s : State) (v : Byte) : (opOutDacwi v s).draws = s.draws := rfl

/-! ### opOutDacd -/

@[simp] theorem opOutDacd_crt (s : State) (v : Byte) : (opOutDacd v s).crt = s.crt := rfl
@[simp] theorem opOutDacd_seq (s : State) (v : Byte) : (opOutDacd v s).seq = s.seq := rfl
@[simp] theorem opOutDacd_gr (s : State) (v : Byte) : (opOutDacd v s).gr = s.gr := rfl
@[simp] theorem opOutDacd_attr (s : State) (v : Byte) : (opOutDacd v s).attr = s.attr := rfl
@[simp] theorem opOutDacd_dac (s : State) (v : Byte) : (opOutDacd v s).dac = s.dac.writeComponent v := rfl
@[simp] theorem opOutDacd_misc (s : State) (v : Byte) : (opOutDacd v s).misc = s.misc := rfl
@[simp] theorem opOutDacd_planes (s : State) (v : Byte) : (opOutDacd v s).planes = s.planes := rfl
@[simp] theorem opOutDacd_latch (s : State) (v : Byte) : (opOutDacd v s).latch = s.latch := rfl
@[simp] theorem opOutDacd_cfg (s : State) (v : Byte) : (opOutDacd v s).cfg = s.cfg := rfl
@[simp] theorem opOutDacd_attached (s : State) (v : Byte) : (opOutDacd v s).attached = s.attached := rfl
@[simp] theorem opOutDacd_params (s : State) (v : Byte) : (opOutDacd v s).params = s.params := rfl
@[simp] theorem opOutDacd_requests (s : State) (v : Byte) : (opOutDacd v s).requests = s.requests := rfl
@[simp] theorem opOutDacd_response (s : State) (v : Byte) : (opOutDacd v s).response = s.response := rfl
@[simp] theorem opOutDacd_draws (s : State) (v : Byte) : (opOutDacd v s).draws = s.draws := rfl

/-! ### opOutMisc -/

@[simp] theorem opOutMisc_crt (s : State) (v : Byte) : (opOutMisc v s).crt = s.crt := rfl
@[simp] theorem opOutMisc_seq (s : State) (v : Byte) : (opOutMisc v s).seq = s.seq := rfl
@[simp] theorem opOutMisc_gr (s : State) (v : Byte) : (opOutMisc v s).gr = s.gr := rfl
@[simp] theorem opOutMisc_attr (s : State) (v : Byte) : (opOutMisc v s).attr = s.attr := rfl
@[simp] theorem opOutMisc_dac (s : State) (v : Byte) : (opOutMisc v s).dac = s.dac := rfl
@[simp] theorem opOutMisc_misc (s : State) (v : Byte) : (opOutMisc v s).misc = { s.misc with output := v &&& 0xEF } := rfl
@[simp] theorem opOutMisc_planes (s : State) (v : Byte) : (opOutMisc v s).planes = s.planes := rfl
@[simp] theorem opOutMisc_latch (s : State) (v : Byte) : (opOutMisc v s).latch = s.latch := rfl
@[simp] theorem opOutMisc_cfg (s : State) (v : Byte) : (opOutMisc v s).cfg = s.cfg := rfl
@[simp] theorem opOutMisc_attached (s : State) (v : Byte) : (opOutMisc v s).attached = s.attached := rfl
@[simp] theorem opOutMisc_params (s : State) (v : Byte) : (opOutMisc v s).params = s.params := rfl
@[simp] theorem opOutMisc_requests (s : State) (v : Byte) : (opOutMisc v s).requests = s.requests := rfl
@[simp] theorem opOutMisc_response (s : State) (v : Byte) : (opOutMisc v s).response = s.response := rfl
@[simp] theorem opOutMisc_draws (s : State) (v : Byte) : (opOutMisc v s).draws = s.draws := rfl

/-! ### opOutFeat -/

@[simp] theorem opOutFeat_crt (s : State) (v : Byte) : (opOutFeat v s).crt = s.crt := rfl
@[simp] theorem opOutFeat_seq (s : State) (v : Byte) : (opOutFeat v s).seq = s.seq := rfl
@[simp] theorem opOutFeat_gr (s : State) (v : Byte) : (opOutFeat v s).gr = s.gr := rfl
@[simp] theorem opOutFeat_attr (s : State) (v : Byte) : (opOutFeat v s).attr = s.attr := rfl
@[simp] theorem opOutFeat_dac (s : State) (v : Byte) : (opOutFeat v s).dac = s.dac := rfl
@[simp] theorem opOutFeat_misc (s : State) (v : Byte) : (opOutFeat v s).misc = { s.misc with feature := v } := rfl
@[simp] theorem opOutFeat_planes (s : State) (v : Byte) : (opOutFeat v s).planes = s.planes := rfl
@[simp] theorem opOutFeat_latch (s : State) (v : Byte) : (opOutFeat v s).latch = s.latch := rfl
@[simp] theorem opOutFeat_cfg (s : State) (v : Byte) : (opOutFeat v s).cfg = s.cfg := rfl
@[simp] theorem opOutFeat_attached (s : State) (v : Byte) : (opOutFeat v s).attached = s.attached := rfl
@[simp] theorem opOutFeat_params (s : State) (v : Byte) : (opOutFeat v s).params = s.params := rfl
@[simp] theorem opOutFeat_requests (s : State) (v : Byte) : (opOutFeat v s).requests = s.requests := rfl
@[simp] theorem opOutFeat_response (s : State) (v : Byte) : (opOutFeat v s).response = s.response := rfl
@[simp] theorem opOutFeat_draws (s : State) (v : Byte) : (opOutFeat v s).draws = s.draws := rfl

/-! ### opOutAttr -/

@[simp] theorem opOutAttr_crt (s : State) (v : Byte) : (opOutAttr v s).crt = s.crt := by unfold opOutAttr; split <;> rfl
@[simp] theorem opOutAttr_seq (s : State) (v : Byte) : (opOutAttr v s).seq = s.seq := by unfold opOutAttr; split <;> rfl
@[simp] theorem opOutAttr_gr (s : State) (v : Byte) : (opOutAttr v s).gr = s.gr := by unfold opOutAttr; split <;> rfl
@[simp] theorem opOutAttr_attr (s : State) (v : Byte) : (opOutAttr v s).attr = if s.attr.flip then (s.attr.writeData v).toggle else (s.attr.writeIndex v).toggle := by unfold opOutAttr; split <;> rfl
@[simp] theorem opOutAttr_dac (s : State) (v : Byte) : (opOutAttr v s).dac = s.dac := by unfold opOutAttr; split <;> rfl
@[simp] theorem opOutAttr_misc (s : State) (v : Byte) : (opOutAttr v s).misc = s.misc := by unfold opOutAttr; split <;> rfl
@[simp] theorem opOutAttr_planes (s : State) (v : Byte) : (opOutAttr v s).planes = s.planes := by unfold opOutAttr; split <;> rfl
@[simp] theorem opOutAttr_latch (s : State) (v : Byte) : (opOutAttr v s).latch = s.latch := by unfold opOutAttr; split <;> rfl
@[simp] theorem opOutAttr_cfg (s : State) (v : Byte) : (opOutAttr v s).cfg = s.cfg := by unfold opOutAttr; split <;> rfl
@[simp] theorem opOutAttr_attached (s : State) (v : Byte) : (opOutAttr v s).attached = s.attached := by unfold opOutAttr; split <;> rfl
@[simp] theorem opOutAttr_params (s : State) (v : Byte) : (opOutAttr v s).params = s.params := by unfold opOutAttr; split <;> rfl
@[simp] theorem opOutAttr_requests (s : State) (v : Byte) : (opOutAttr v s).requests = s.requests := by unfold opOutAttr; split <;> rfl
@[simp] theorem opOutAttr_response (s : State) (v : Byte) : (opOutAttr v s).response = s.response := by unfold opOutAttr; split <;> rfl
@[simp] theorem opOutAttr_draws (s : State) (v : Byte) : (opOutAttr v s).draws = s.draws := by unfold opOutAttr; split <;> rfl

/-! ### opInSt1 -/

@[simp] theorem opInSt1_crt (s : State) : ((opInSt1 s).2).crt = s.crt := rfl
@[simp] theorem opInSt1_seq (s : State) : ((opInSt1 s).2).seq = s.seq := rfl
@[simp] theorem opInSt1_gr (s : State) : ((opInSt1 s).2).gr = s.gr := rfl
@[simp] theorem opInSt1_attr (s : State) : ((opInSt1 s).2).attr = s.attr.awaitIndex := rfl
@[simp] theorem opInSt1_dac (s : State) : ((opInSt1 s).2).dac = s.dac := rfl
@[simp] theorem opInSt1_misc (s : State) : ((opInSt1 s).2).misc = s.misc := rfl
@[simp] theorem opInSt1_planes (s : State) : ((opInSt1 s).2).planes = s.planes := rfl
@[simp] theorem opInSt1_latch (s : State) : ((opInSt1 s).2).latch = s.latch := rfl
@[simp] theorem opInSt1_cfg (s : State) : ((opInSt1 s).2).cfg = s.cfg := rfl
@[simp] theorem opInSt1_attached (s : State) : ((opInSt1 s).2).attached = s.attached := rfl
@[simp] theorem opInSt1_params (s : State) : ((opInSt1 s).2).params = s.params := rfl
@[simp] theorem opInSt1_requests (s : State) : ((opInSt1 s).2).requests = s.requests := rfl
@[simp] theorem opInSt1_response (s : State) : ((opInSt1 s).2).response = s.response := rfl
@[simp] theorem opInSt1_draws (s : State) : ((opInSt1 s).2).draws = s.draws := rfl

/-! ### opInDacd -/

@[simp] theorem opInDacd_crt (s : State) : ((opInDacd s).2).crt = s.crt := rfl
@[simp] theorem opInDacd_seq (s : State) : ((opInDacd s).2).seq = s.seq := rfl
@[simp] theorem opInDacd_gr (s : State) : ((opInDacd s).2).gr = s.gr := rfl
@[simp] theorem opInDacd_attr (s : State) : ((opInDacd s).2).attr = s.attr := rfl
@[simp] theorem opInDacd_dac (s : State) : ((opInDacd s).2).dac = s.dac.afterRead := rfl
@[simp] theorem opInDacd_misc (s : State) : ((opInDacd s).2).misc = s.misc := rfl
@[simp] theorem opInDacd_planes (s : State) : ((opInDacd s).2).planes = s.planes := rfl
@[simp] theorem opInDacd_latch (s : State) : ((opInDacd s).2).latch = s.latch := rfl
@[simp] theorem opInDacd_cfg (s : State) : ((opInDacd s).2).cfg = s.cfg := rfl
@[simp] theorem opInDacd_attached (s : State) : ((opInDacd s).2).attached = s.attached := rfl
@[simp] theorem opInDacd_params (s : State) : ((opInDacd s).2).params = s.params := rfl
@[simp] theorem opInDacd_requests (s : State) : ((opInDacd s).2).requests = s.requests := rfl
@[simp] theorem opInDacd_response (s : State) : ((opInDacd s).2).response = s.response := rfl
@[simp] theorem opInDacd_draws (s : State) : ((opInDacd s).2).draws = s.draws := rfl

end Sys2Proof.Laws
end

