-- ==== Sys2Proof/Laws/Memory.lean ====
section
/-! SUPPORT. The laws of one plane's bytes: read after write, the canonical form is kept, and canonical planes that read
the same are the same list; then the same through PlaneRead and PlaneWrite. -/

namespace Sys2Proof.Laws

open Sys2Proof.Machine

@[simp] theorem memory_read_nil (a : Nat) : Memory.read [] a = 0 := rfl

theorem memory_read_cons (b : Nat) (w : Byte) (m : Memory) (a : Nat) :
    Memory.read ((b, w) :: m) a = if a = b then w else Memory.read m a := rfl

theorem wfAbove_cons (lo : Option Nat) (b : Nat) (w : Byte) (m : Memory) :
    Memory.wfAbove lo ((b, w) :: m) = true ↔
      (∀ l, lo = some l → l < b) ∧ w ≠ 0 ∧ Memory.wfAbove (some b) m = true := by
  cases lo <;> simp [Memory.wfAbove, Memory.unlisted, and_assoc]

theorem wfAbove_weaken {lo lo' : Option Nat} {m : Memory} (h : Memory.wfAbove lo m = true)
    (hl : ∀ l', lo' = some l' → ∃ l, lo = some l ∧ l' ≤ l) : Memory.wfAbove lo' m = true := by
  cases m with
  | nil => rfl
  | cons c m =>
    obtain ⟨b, w⟩ := c
    rw [wfAbove_cons] at h ⊢
    refine ⟨fun l' e => ?_, h.2⟩
    obtain ⟨l, e', hle⟩ := hl l' e
    have := h.1 l e'
    omega

/-- An offset at or below the bound of a canonical tail is not listed in it. -/
theorem read_below {lo : Nat} {m : Memory} (h : Memory.wfAbove (some lo) m = true) {a : Nat} (ha : a ≤ lo) :
    Memory.read m a = 0 := by
  induction m generalizing lo with
  | nil => rfl
  | cons c m ih =>
    obtain ⟨b, w⟩ := c
    rw [wfAbove_cons] at h
    have hb := h.1 lo rfl
    rw [memory_read_cons, if_neg (by omega)]
    exact ih h.2.2 (by omega)

theorem read_write_other (m : Memory) {a c : Nat} (v : Byte) (h : c ≠ a) :
    Memory.read (Memory.write m a v) c = Memory.read m c := by
  induction m with
  | nil =>
    unfold Memory.write
    split
    · rfl
    · rw [memory_read_cons, if_neg h]
  | cons d m ih =>
    obtain ⟨b, w⟩ := d
    unfold Memory.write
    split
    · split
      · rfl
      · rw [memory_read_cons, if_neg h]
    · split
      · next hab =>
        subst hab
        split
        · rw [memory_read_cons, if_neg h]
        · rw [memory_read_cons, memory_read_cons, if_neg h, if_neg h]
      · rw [memory_read_cons, memory_read_cons, ih]

theorem read_write_same {m : Memory} (hm : Memory.wf m = true) (a : Nat) (v : Byte) :
    Memory.read (Memory.write m a v) a = v := by
  unfold Memory.wf at hm
  generalize none = lo at hm
  induction m generalizing lo with
  | nil =>
    unfold Memory.write
    split
    · next h => exact h.symm
    · rw [memory_read_cons, if_pos rfl]
  | cons d m ih =>
    obtain ⟨b, w⟩ := d
    rw [wfAbove_cons] at hm
    unfold Memory.write
    split
    · split
      · next hab hv =>
        rw [memory_read_cons, if_neg (by omega), read_below hm.2.2 (by omega)]
        exact hv.symm
      · rw [memory_read_cons, if_pos rfl]
    · split
      · next hab =>
        subst hab
        split
        · next hv => rw [read_below hm.2.2 (Nat.le_refl _)]; exact hv.symm
        · rw [memory_read_cons, if_pos rfl]
      · next hab => rw [memory_read_cons, if_neg hab]; exact ih _ hm.2.2

theorem wfAbove_write {m : Memory} {lo : Option Nat} (hm : Memory.wfAbove lo m = true) {a : Nat}
    (ha : ∀ l, lo = some l → l < a) (v : Byte) : Memory.wfAbove lo (Memory.write m a v) = true := by
  induction m generalizing lo with
  | nil =>
    unfold Memory.write
    split
    · rfl
    · next hv => rw [wfAbove_cons]; exact ⟨ha, hv, rfl⟩
  | cons d m ih =>
    obtain ⟨b, w⟩ := d
    have hc := (wfAbove_cons lo b w m).1 hm
    unfold Memory.write
    split
    · next hab =>
      split
      · exact hm
      · next hv =>
        rw [wfAbove_cons, wfAbove_cons]
        exact ⟨ha, hv, fun l e => by cases e; exact hab, hc.2⟩
    · split
      · next hab =>
        subst hab
        split
        · exact wfAbove_weaken hc.2.2 fun l' e => ⟨a, rfl, Nat.le_of_lt (ha l' e)⟩
        · next hv => rw [wfAbove_cons]; exact ⟨ha, hv, hc.2.2⟩
      · rw [wfAbove_cons]
        exact ⟨hc.1, hc.2.1, ih hc.2.2 fun l e => by cases e; omega⟩

/-- Every write keeps the canonical form. -/
theorem wf_write {m : Memory} (hm : Memory.wf m = true) (a : Nat) (v : Byte) :
    Memory.wf (Memory.write m a v) = true :=
  wfAbove_write hm (fun _ e => by cases e) v

/-- Canonical planes that read the same at every offset are the same list. -/
theorem wf_ext {m m' : Memory} (h : Memory.wf m = true) (h' : Memory.wf m' = true)
    (he : ∀ a, Memory.read m a = Memory.read m' a) : m = m' := by
  unfold Memory.wf at h h'
  generalize none = lo at h h'
  induction m generalizing m' lo with
  | nil =>
    cases m' with
    | nil => rfl
    | cons d' m' =>
      obtain ⟨b', w'⟩ := d'
      rw [wfAbove_cons] at h'
      have := he b'
      rw [memory_read_cons, if_pos rfl] at this
      exact absurd this.symm h'.2.1
  | cons d m ih =>
    obtain ⟨b, w⟩ := d
    have hc := (wfAbove_cons lo b w m).1 h
    cases m' with
    | nil =>
      have := he b
      rw [memory_read_cons, if_pos rfl] at this
      exact absurd this hc.2.1
    | cons d' m' =>
      obtain ⟨b', w'⟩ := d'
      have hc' := (wfAbove_cons lo b' w' m').1 h'
      have e1 := he b
      have e2 := he b'
      rw [memory_read_cons, memory_read_cons, if_pos rfl] at e1 e2
      have hb : b = b' := by
        rcases Nat.lt_trichotomy b b' with hlt | heq | hgt
        · rw [if_neg (by omega), read_below hc'.2.2 (by omega)] at e1
          exact absurd e1 hc.2.1
        · exact heq
        · rw [if_neg (by omega), read_below hc.2.2 (by omega)] at e2
          exact absurd e2.symm hc'.2.1
      subst hb
      rw [if_pos rfl] at e1
      subst e1
      congr 1
      refine ih (fun a => ?_) (some b) hc.2.2 hc'.2.2
      by_cases ha : a = b
      · subst ha
        rw [read_below hc.2.2 (Nat.le_refl _), read_below hc'.2.2 (Nat.le_refl _)]
      · have := he a
        rwa [memory_read_cons, memory_read_cons, if_neg ha, if_neg ha] at this

theorem planeWrite_planes (s : State) (p : Plane) (o : Nat) (v : Byte) :
    (s.planeWrite p o v).planes =
      if o < s.params.planeSize then s.planes.set p (Memory.write s.planes[p] o v) else s.planes := by
  unfold State.planeWrite
  split <;> rfl

/-- PlaneWrite leaves every other plane byte alone. -/
theorem planeRead_planeWrite_other (s : State) {p q : Plane} {o o' : Nat} (v : Byte) (h : q ≠ p ∨ o' ≠ o) :
    (s.planeWrite p o v).planeRead q o' = s.planeRead q o' := by
  unfold State.planeRead
  rw [planeWrite_params, planeWrite_planes]
  split
  · split
    · by_cases hq : q = p
      · subst hq
        simp only [Fin.getElem_fin, Vector.getElem_set_self]
        exact read_write_other _ _ (by simpa using h)
      · have : p.val ≠ q.val := fun e => hq (Fin.ext e.symm)
        simp only [Fin.getElem_fin, Vector.getElem_set_ne _ _ this]
    · rfl
  · rfl

/-- A PlaneRead after a PlaneWrite of the same byte gives what was written, below PLANE_SIZE. -/
theorem planeRead_planeWrite_same (s : State) {p : Plane} {o : Nat} (v : Byte)
    (hm : Memory.wf s.planes[p] = true) (ho : o < s.params.planeSize) :
    (s.planeWrite p o v).planeRead p o = v := by
  unfold State.planeRead
  rw [planeWrite_params, planeWrite_planes, if_pos ho, if_pos ho]
  simp only [Fin.getElem_fin, Vector.getElem_set_self]
  exact read_write_same hm o v

/-- PlaneWrite keeps every plane canonical. -/
theorem planeWrite_wf (s : State) (p : Plane) (o : Nat) (v : Byte)
    (h : ∀ q : Fin 4, Memory.wf s.planes[q] = true) (q : Fin 4) :
    Memory.wf (s.planeWrite p o v).planes[q] = true := by
  rw [planeWrite_planes]
  split
  · by_cases hq : q = p
    · subst hq
      simp only [Fin.getElem_fin, Vector.getElem_set_self]
      exact wf_write (h q) _ _
    · have : p.val ≠ q.val := fun e => hq (Fin.ext e.symm)
      simp only [Fin.getElem_fin, Vector.getElem_set_ne _ _ this]
      exact h q
  · exact h q

end Sys2Proof.Laws
end

