-- ==== Sys2Proof/Laws/Io.lean ====
section
/-! SUPPORT. What the I/O procedure and the register operations can do, said once each: provers cite these and unfold
neither. -/

namespace Sys2Proof.Laws

open Sys2Proof.Machine

/-- An I/O read that has its operation's effect: one byte, or TRUNCATE (R140, R142). -/
theorem ioRead_runs (port : Port) (op : State → Byte × State) (size : IoSize) (s : State)
    (ha : s.attached = true) (hr : IoRuns s size) :
    ioRead port op size s =
      .next ((op s).2.respond (some (.io (zextByte size (op s).1))) (ioStatus port size)) := by
  unfold ioRead
  rw [if_pos ha]
  cases size
  · rfl
  all_goals
    obtain h | h := hr
    · cases h
    · simp only [h]; rfl

/-- A wide I/O read under IGNORE (R143). -/
theorem ioRead_ignored (port : Port) (op : State → Byte × State) (size : IoSize) (s : State)
    (ha : s.attached = true) (hr : ¬ IoRuns s size) :
    ioRead port op size s = .next (s.respond (some (.io (zextByte size 0))) (ioStatus port size)) := by
  unfold ioRead
  rw [if_pos ha]
  cases hw : s.params.wideIo
  · exact absurd (Or.inr hw) hr
  · cases size
    · exact absurd (Or.inl rfl) hr
    all_goals simp only; rfl

/-- A detached block refuses every I/O read (R140). -/
theorem ioRead_detached (port : Port) (op : State → Byte × State) (size : IoSize) (s : State)
    (ha : s.attached = false) : ioRead port op size s = .refused .notAttached := by
  unfold ioRead
  rw [if_neg (by simp [ha])]

/-- Everything an I/O read can answer with a next state. -/
theorem ioRead_cases {port : Port} {op : State → Byte × State} {size : IoSize} {s t : State}
    (h : ioRead port op size s = .next t) :
    s.attached = true ∧
      ((IoRuns s size ∧ t = (op s).2.respond (some (.io (zextByte size (op s).1))) (ioStatus port size)) ∨
       (¬ IoRuns s size ∧ t = s.respond (some (.io (zextByte size 0))) (ioStatus port size))) := by
  cases ha : s.attached
  · rw [ioRead_detached _ _ _ _ ha] at h; cases h
  · refine ⟨rfl, ?_⟩
    by_cases hr : IoRuns s size
    · rw [ioRead_runs _ _ _ _ ha hr] at h; cases h; exact .inl ⟨hr, rfl⟩
    · rw [ioRead_ignored _ _ _ _ ha hr] at h; cases h; exact .inr ⟨hr, rfl⟩

/-- An I/O write that has its operation's effect (R140, R142). -/
theorem ioWrite_runs (port : Port) (op : Byte → State → State) (d : IoData) (s : State)
    (ha : s.attached = true) (hr : IoRuns s d.size) :
    ioWrite port op d s = .next ((op (dataByte d) s).respond none (ioStatus port d.size)) := by
  unfold ioWrite
  rw [if_pos ha]
  cases d
  · rfl
  all_goals
    obtain h | h := hr
    · cases h
    · simp only [h]; rfl

/-- A wide I/O write under IGNORE (R143). -/
theorem ioWrite_ignored (port : Port) (op : Byte → State → State) (d : IoData) (s : State)
    (ha : s.attached = true) (hr : ¬ IoRuns s d.size) :
    ioWrite port op d s = .next (s.respond none (ioStatus port d.size)) := by
  unfold ioWrite
  rw [if_pos ha]
  cases hw : s.params.wideIo
  · exact absurd (Or.inr hw) hr
  · cases d
    · exact absurd (Or.inl rfl) hr
    all_goals simp only; rfl

/-- A detached block refuses every I/O write (R140). -/
theorem ioWrite_detached (port : Port) (op : Byte → State → State) (d : IoData) (s : State)
    (ha : s.attached = false) : ioWrite port op d s = .refused .notAttached := by
  unfold ioWrite
  rw [if_neg (by simp [ha])]

/-- Everything an I/O write can answer with a next state. -/
theorem ioWrite_cases {port : Port} {op : Byte → State → State} {d : IoData} {s t : State}
    (h : ioWrite port op d s = .next t) :
    s.attached = true ∧
      ((IoRuns s d.size ∧ t = (op (dataByte d) s).respond none (ioStatus port d.size)) ∨
       (¬ IoRuns s d.size ∧ t = s.respond none (ioStatus port d.size))) := by
  cases ha : s.attached
  · rw [ioWrite_detached _ _ _ _ ha] at h; cases h
  · refine ⟨rfl, ?_⟩
    by_cases hr : IoRuns s d.size
    · rw [ioWrite_runs _ _ _ _ ha hr] at h; cases h; exact .inl ⟨hr, rfl⟩
    · rw [ioWrite_ignored _ _ _ _ ha hr] at h; cases h; exact .inr ⟨hr, rfl⟩

/-! ### Register banks -/

@[simp] theorem writeIndex_index (b : RegisterBank) (v : Byte) : (b.writeIndex v).index = v := rfl
@[simp] theorem writeIndex_data (b : RegisterBank) (v : Byte) : (b.writeIndex v).data = b.data := rfl
@[simp] theorem writeData_index (b : RegisterBank) (v : Byte) : (b.writeData v).index = b.index := rfl
@[simp] theorem slot_writeIndex (b : RegisterBank) (v i : Byte) : (b.writeIndex v).slot i = b.slot i := rfl

/-- A data write reaches the selected slot alone (R21, R153). -/
theorem slot_writeData (b : RegisterBank) (v i : Byte) :
    (b.writeData v).slot i = if i = b.index then v else b.slot i := by
  unfold RegisterBank.slot RegisterBank.writeData
  rw [Vector.getElem_set]
  by_cases h : i = b.index
  · subst h; simp
  · rw [if_neg h, if_neg]
    intro e
    exact h (BitVec.eq_of_toNat_eq e.symm)

@[simp] theorem readData_writeData (b : RegisterBank) (v : Byte) : (b.writeData v).readData = v := by
  unfold RegisterBank.readData
  rw [slot_writeData, writeData_index, if_pos rfl]

/-! ### Attribute latch -/

@[simp] theorem toggle_flip (a : AttributeLatch) : a.toggle.flip = !a.flip := rfl
@[simp] theorem toggle_index (a : AttributeLatch) : a.toggle.index = a.index := rfl
@[simp] theorem toggle_data (a : AttributeLatch) : a.toggle.data = a.data := rfl
@[simp] theorem awaitIndex_flip (a : AttributeLatch) : a.awaitIndex.flip = false := rfl
@[simp] theorem awaitIndex_index (a : AttributeLatch) : a.awaitIndex.index = a.index := rfl
@[simp] theorem awaitIndex_data (a : AttributeLatch) : a.awaitIndex.data = a.data := rfl
@[simp] theorem attrWriteIndex_index (a : AttributeLatch) (v : Byte) : (a.writeIndex v).index = v &&& 0x3F := rfl
@[simp] theorem attrWriteIndex_data (a : AttributeLatch) (v : Byte) : (a.writeIndex v).data = a.data := rfl
@[simp] theorem attrWriteIndex_flip (a : AttributeLatch) (v : Byte) : (a.writeIndex v).flip = a.flip := rfl
@[simp] theorem attrWriteData_index (a : AttributeLatch) (v : Byte) : (a.writeData v).index = a.index := rfl
@[simp] theorem attrWriteData_flip (a : AttributeLatch) (v : Byte) : (a.writeData v).flip = a.flip := rfl
@[simp] theorem attrWriteData_data (a : AttributeLatch) (v : Byte) :
    (a.writeData v).data = a.data.set a.selected.toNat (v &&& attrMask a.selected) a.selected_lt := rfl

/-! ### DAC -/

@[simp] theorem setReadIndex_palette (d : DacPalette) (v : Byte) : (d.setReadIndex v).palette = d.palette := rfl
@[simp] theorem setReadIndex_readIndex (d : DacPalette) (v : Byte) : (d.setReadIndex v).readIndex = v := rfl
@[simp] theorem setReadIndex_writeIndex (d : DacPalette) (v : Byte) : (d.setReadIndex v).writeIndex = d.writeIndex := rfl
@[simp] theorem setReadIndex_subIndex (d : DacPalette) (v : Byte) : (d.setReadIndex v).subIndex = 0 := rfl
@[simp] theorem setReadIndex_pending (d : DacPalette) (v : Byte) : (d.setReadIndex v).pending = d.pending := rfl
@[simp] theorem setReadIndex_dacState (d : DacPalette) (v : Byte) : (d.setReadIndex v).dacState = 3 := rfl
@[simp] theorem setWriteIndex_palette (d : DacPalette) (v : Byte) : (d.setWriteIndex v).palette = d.palette := rfl
@[simp] theorem setWriteIndex_readIndex (d : DacPalette) (v : Byte) : (d.setWriteIndex v).readIndex = d.readIndex := rfl
@[simp] theorem setWriteIndex_writeIndex (d : DacPalette) (v : Byte) : (d.setWriteIndex v).writeIndex = v := rfl
@[simp] theorem setWriteIndex_subIndex (d : DacPalette) (v : Byte) : (d.setWriteIndex v).subIndex = 0 := rfl
@[simp] theorem setWriteIndex_pending (d : DacPalette) (v : Byte) : (d.setWriteIndex v).pending = d.pending := rfl
@[simp] theorem setWriteIndex_dacState (d : DacPalette) (v : Byte) : (d.setWriteIndex v).dacState = 0 := rfl

/-- A component write before the third: `pending` takes it and the sub-index moves on (R190). -/
theorem writeComponent_partial (d : DacPalette) (v : Byte) (h : d.subIndex ≠ 2) :
    d.writeComponent v =
      { d with pending := d.pending.set d.subIndex (v &&& 0x3F), subIndex := nextSubIndex d.subIndex } := by
  unfold DacPalette.writeComponent
  rw [if_neg h]
  rfl

/-- The third component write: all three pending bytes go to the entry in one commit (R190). -/
theorem writeComponent_commit (d : DacPalette) (v : Byte) (h : d.subIndex = 2) :
    d.writeComponent v =
      { d with
        pending := d.pending.set 2 (v &&& 0x3F),
        palette := d.palette.set d.writeIndex.toNat (d.pending.set 2 (v &&& 0x3F)) d.writeIndex.isLt,
        writeIndex := d.writeIndex + 1, subIndex := 0 } := by
  unfold DacPalette.writeComponent
  rw [if_pos h]
  unfold DacPalette.putPending DacPalette.commit DacPalette.advance
  simp [h, nextSubIndex]

/-- A component read (R191): only the cursors move. -/
theorem afterRead_eq (d : DacPalette) :
    d.afterRead =
      { d with
        subIndex := nextSubIndex d.subIndex,
        readIndex := if d.subIndex = 2 then d.readIndex + 1 else d.readIndex } := by
  unfold DacPalette.afterRead
  split <;> rfl

end Sys2Proof.Laws
end

