-- ==== Sys2Proof/Laws/Lifecycle.lean ====
section
/-! SUPPORT. What the host's requests can do, said once each. -/

namespace Sys2Proof.Laws

open Sys2Proof.Machine

/-- Everything HOST.DIAG can answer with a next state (R263). -/
theorem execHostDiag_cases {s t : State} (h : execHostDiag s = .next t) :
    s.attached = true ∧ t = s.respond (some (.diag s.dac.dacState)) .ok := by
  unfold execHostDiag at h
  split at h
  · next ha => cases h; exact ⟨ha, rfl⟩
  · cases h

/-- Everything HOST.DETACH can answer (R262). -/
theorem execHostDetach_cases {s t : State} (h : execHostDetach s = .next t) :
    (s.attached = true ∧ t = s.discard.respond none .ok) ∨ (s.attached = false ∧ t = s.respond none .ok) := by
  unfold execHostDetach at h
  split at h
  · next ha => cases h; exact .inl ⟨ha, rfl⟩
  · next ha => cases h; exact .inr ⟨by simpa using ha, rfl⟩

/-- Everything HOST.ATTACH can answer with a next state (R260, R261). -/
theorem execHostAttach_cases {b l : BitVec 32} {ok : Bool} {s t : State} (h : execHostAttach b l ok s = .next t) :
    s.attached = false ∧
      ((ok = true ∧ t = (s.attachReset b l).respond none .ok) ∨
        (ok = false ∧ t = s.respond none .configurationError)) := by
  unfold execHostAttach at h
  split at h
  · cases h
  · next ha =>
    refine ⟨by simpa using ha, ?_⟩
    split at h
    · next hok => cases h; exact .inl ⟨hok, rfl⟩
    · next hok => cases h; exact .inr ⟨by simpa using hok, rfl⟩

end Sys2Proof.Laws
end

