-- ==== Sys2Proof/Laws/Mmio.lean ====
section
/-! SUPPORT. What the address decoder and the MMIO handlers can do, said once each. -/

namespace Sys2Proof.Laws

open Sys2Proof.Machine

/-- Two states agree on everything but the plane bytes and the counter of free values. -/
structure SameButPlanes (s t : State) : Prop where
  crt      : t.crt = s.crt
  seq      : t.seq = s.seq
  gr       : t.gr = s.gr
  attr     : t.attr = s.attr
  dac      : t.dac = s.dac
  misc     : t.misc = s.misc
  latch    : t.latch = s.latch
  cfg      : t.cfg = s.cfg
  attached : t.attached = s.attached
  params   : t.params = s.params
  requests : t.requests = s.requests
  response : t.response = s.response

theorem SameButPlanes.refl (s : State) : SameButPlanes s s :=
  ⟨rfl, rfl, rfl, rfl, rfl, rfl, rfl, rfl, rfl, rfl, rfl, rfl⟩

theorem SameButPlanes.trans {s t u : State} (h : SameButPlanes s t) (h' : SameButPlanes t u) :
    SameButPlanes s u :=
  ⟨h'.crt.trans h.crt, h'.seq.trans h.seq, h'.gr.trans h.gr, h'.attr.trans h.attr, h'.dac.trans h.dac,
    h'.misc.trans h.misc, h'.latch.trans h.latch, h'.cfg.trans h.cfg, h'.attached.trans h.attached,
    h'.params.trans h.params, h'.requests.trans h.requests, h'.response.trans h.response⟩

theorem SameButPlanes.eq {s t : State} (h : SameButPlanes s t) :
    t = { s with planes := t.planes, draws := t.draws } := by
  obtain ⟨h1, h2, h3, h4, h5, h6, h7, h8, h9, h10, h11, h12⟩ := h
  cases s; cases t
  simp_all

theorem SameButPlanes.mapMask {s t : State} (h : SameButPlanes s t) : t.mapMask = s.mapMask := by
  simp only [State.mapMask, h.seq]

theorem SameButPlanes.planeEnabled {s t : State} (h : SameButPlanes s t) (p : Plane) :
    t.planeEnabled p = s.planeEnabled p := by
  simp only [State.planeEnabled, h.mapMask]

theorem SameButPlanes.chain4 {s t : State} (h : SameButPlanes s t) : t.chain4 = s.chain4 := by
  simp only [State.chain4, h.seq]

theorem SameButPlanes.oddEven {s t : State} (h : SameButPlanes s t) : t.oddEven = s.oddEven := by
  simp only [State.oddEven, h.gr]

theorem SameButPlanes.writeMode {s t : State} (h : SameButPlanes s t) : t.writeMode = s.writeMode := by
  simp only [State.writeMode, h.gr]

theorem SameButPlanes.rebase {s t : State} (h : SameButPlanes s t) (a : Nat) : t.rebase a = s.rebase a := by
  have hm : t.mapRegion = s.mapRegion := by
    unfold State.mapRegion State.memoryMapMode
    rw [h.gr, h.cfg]
  unfold State.rebase
  rw [hm, h.cfg]

theorem SameButPlanes.decodeRead {s t : State} (h : SameButPlanes s t) (a : Nat) :
    t.decodeRead a = s.decodeRead a := by
  unfold State.decodeRead State.oddEvenPlane State.planarReadPlane State.readMapSelect
  rw [h.rebase, h.chain4, h.oddEven, h.gr]

theorem planeWrite_same (s : State) (p : Plane) (o : Nat) (v : Byte) : SameButPlanes s (s.planeWrite p o v) :=
  ⟨by simp, by simp, by simp, by simp, by simp, by simp, by simp, by simp, by simp, by simp, by simp, by simp⟩

/-- Committing decoded bytes changes plane bytes only (R253, R56). -/
theorem commitBytes_same (bs : List PlaneByte) (s : State) :
    SameButPlanes s (s.commitBytes bs) ∧ (s.commitBytes bs).draws = s.draws := by
  induction bs generalizing s with
  | nil => exact ⟨.refl s, rfl⟩
  | cons b bs ih =>
    have h := ih (s.planeWrite b.plane b.offset b.value)
    exact ⟨(planeWrite_same _ _ _ _).trans h.1, h.2.trans (planeWrite_draws _ _ _ _)⟩

/-- A plane byte that no decoded byte names keeps its value. -/
theorem planeRead_commitBytes_other (bs : List PlaneByte) (s : State) {p : Plane} {o : Nat}
    (h : ∀ b ∈ bs, b.plane ≠ p ∨ b.offset ≠ o) : (s.commitBytes bs).planeRead p o = s.planeRead p o := by
  induction bs generalizing s with
  | nil => rfl
  | cons b bs ih =>
    rw [State.commitBytes, ih _ fun c hc => h c (List.mem_cons_of_mem _ hc)]
    refine planeRead_planeWrite_other _ _ ?_
    rcases h b List.mem_cons_self with h | h
    · exact .inl h.symm
    · exact .inr h.symm

/-- Committing keeps every plane canonical. -/
theorem commitBytes_wf (bs : List PlaneByte) (s : State) (h : ∀ q : Fin 4, Memory.wf s.planes[q] = true)
    (q : Fin 4) : Memory.wf (s.commitBytes bs).planes[q] = true := by
  induction bs generalizing s with
  | nil => exact h q
  | cons b bs ih => exact ih _ fun q => planeWrite_wf _ _ _ _ h q

/-- Each byte of a commit in distinct planes is the one that is read afterwards (R232, R253). -/
theorem planeRead_commitBytes_mem (bs : List PlaneByte) (s : State) (hn : (bs.map PlaneByte.plane).Nodup)
    (hw : ∀ q : Fin 4, Memory.wf s.planes[q] = true) {b : PlaneByte} (hb : b ∈ bs)
    (ho : b.offset < s.params.planeSize) : (s.commitBytes bs).planeRead b.plane b.offset = b.value := by
  induction bs generalizing s with
  | nil => cases hb
  | cons c cs ih =>
    rw [List.map_cons, List.nodup_cons] at hn
    rw [State.commitBytes]
    rcases List.mem_cons.1 hb with rfl | hb
    · rw [planeRead_commitBytes_other _ _ fun d hd => .inl fun e => hn.1 (by rw [← e]; exact List.mem_map_of_mem hd)]
      exact planeRead_planeWrite_same _ _ (hw _) ho
    · exact ih _ hn.2 (planeWrite_wf _ _ _ _ hw) hb (by simpa using ho)

/-- What committing one byte per listed plane at one offset leaves (R232, R253). -/
theorem planeRead_commitBytes_map (ps : List Plane) (hn : ps.Nodup) (s : State)
    (hw : ∀ q : Fin 4, Memory.wf s.planes[q] = true) (r : Nat) (f : Plane → Byte) (q : Plane) (o : Nat) :
    (s.commitBytes (ps.map fun p => { plane := p, offset := r, value := f p })).planeRead q o =
      if q ∈ ps ∧ o = r ∧ r < s.params.planeSize then f q else s.planeRead q o := by
  induction ps generalizing s with
  | nil => simp [State.commitBytes]
  | cons p ps ih =>
    rw [List.nodup_cons] at hn
    rw [List.map_cons, State.commitBytes, ih hn.2 _ (planeWrite_wf _ _ _ _ hw), planeWrite_params]
    by_cases hq : q = p
    · subst hq
      simp only [hn.1, List.mem_cons_self, false_and, if_false, true_and]
      split
      · next h => obtain ⟨rfl, h⟩ := h; exact planeRead_planeWrite_same _ _ (hw q) h
      · next h =>
        by_cases ho : o = r
        · subst ho
          have : ¬ o < s.params.planeSize := fun h' => h ⟨rfl, h'⟩
          simp [State.planeWrite, this]
        · exact planeRead_planeWrite_other _ _ (.inr ho)
    · rw [planeRead_planeWrite_other _ _ (.inl hq)]
      simp [hq]

/-- What a planar write leaves: its byte in every write-enabled plane (R229, R230, R231). -/
theorem planeRead_enabledBytes (s : State) (hw : ∀ q : Fin 4, Memory.wf s.planes[q] = true) (r : Nat)
    (f : Plane → Byte) (q : Plane) (o : Nat) :
    (s.commitBytes (s.enabledBytes r f)).planeRead q o =
      if o = r ∧ s.planeEnabled q = true ∧ r < s.params.planeSize then f q else s.planeRead q o := by
  unfold State.enabledBytes
  rw [planeRead_commitBytes_map _ (List.Pairwise.filter _ (by decide)) _ hw]
  have hm : q ∈ ([0, 1, 2, 3] : List Plane).filter (fun p => s.planeEnabled p) ↔ s.planeEnabled q = true := by
    rw [List.mem_filter]
    revert q
    simp [Fin.forall_fin_succ]
  simp only [hm, and_left_comm]

/-- What a raw write leaves: its byte in the one plane, if that is write-enabled (R223, R224). -/
theorem planeRead_gatedByte (s : State) (hw : ∀ q : Fin 4, Memory.wf s.planes[q] = true) (r : Nat) (p : Plane)
    (v : Byte) (q : Plane) (o : Nat) :
    (s.commitBytes (s.gatedByte p r v)).planeRead q o =
      if q = p ∧ o = r ∧ s.planeEnabled p = true ∧ r < s.params.planeSize then v else s.planeRead q o := by
  unfold State.gatedByte
  split
  · next h =>
    refine (planeRead_commitBytes_map [p] (by simp) s hw r (fun _ => v) q o).trans ?_
    simp [h]
  · next h => simp [State.commitBytes, h]

/-- Everything a write decode can answer (R222): its bytes are at the rebased offset, each in a write-enabled plane. -/
theorem decodeWrite_bytes {s : State} {a : Nat} {v : Byte} {w : WriteDecode} (h : s.decodeWrite a v = .ok w) :
    ∀ b ∈ w.bytes, s.rebase a = some b.offset ∧ s.planeEnabled b.plane = true := by
  have gated : ∀ p r, ∀ b ∈ s.gatedByte p r v, b.offset = r ∧ s.planeEnabled b.plane = true := by
    intro p r b hb
    unfold State.gatedByte at hb
    split at hb
    · next hp => simp only [List.mem_singleton] at hb; subst hb; exact ⟨rfl, hp⟩
    · cases hb
  have enabled : ∀ r f, ∀ b ∈ s.enabledBytes r f, b.offset = r ∧ s.planeEnabled b.plane = true := by
    intro r f b hb
    unfold State.enabledBytes at hb
    obtain ⟨p, hp, rfl⟩ := List.mem_map.1 hb
    exact ⟨rfl, (List.mem_filter.1 hp).2⟩
  unfold State.decodeWrite at h
  split at h
  · cases h; intro b hb; cases hb
  · next r hr =>
    rw [hr]
    suffices hs : ∀ b ∈ w.bytes, b.offset = r ∧ s.planeEnabled b.plane = true from
      fun b hb => ⟨congrArg some (hs b hb).1.symm, (hs b hb).2⟩
    split at h
    · cases h; exact gated _ _
    · split at h
      · cases h; exact gated _ _
      · unfold State.planarWrite at h
        split at h
        · cases h; exact enabled _ _
        · unfold State.mode123Write at h
          split at h
          · cases h
          · cases h; exact enabled _ _
          · cases h; exact enabled _ _

/-- A write decode is refused only for a planar byte in write mode 1, 2 or 3 under REFUSE (R230). -/
theorem decodeWrite_error {s : State} {a : Nat} {v : Byte} {why : Refusal} (h : s.decodeWrite a v = .error why) :
    why = .writeModeUnimplemented ∧ PlanarMode123 s ∧ s.params.writeMode123 = .refuse ∧
      ∃ r, s.rebase a = some r := by
  unfold State.decodeWrite at h
  split at h
  · cases h
  · next r hr =>
    split at h
    · cases h
    · next hc =>
      split at h
      · cases h
      · next ho =>
        unfold State.planarWrite at h
        split at h
        · cases h
        · next hm =>
          unfold State.mode123Write at h
          split at h
          · next hp => cases h; exact ⟨rfl, ⟨by simpa using hc, by simpa using ho, hm⟩, hp, r, hr⟩
          · cases h
          · cases h

/-- Everything one MMIO write byte can do (R253). -/
theorem mmioByteWrite_cases {s t : State} {a : Nat} {v : Byte} (h : s.mmioByteWrite a v = .ok t) :
    ∃ w, s.decodeWrite a v = .ok w ∧ t = { s.commitBytes w.bytes with draws := s.draws + w.draws } := by
  unfold State.mmioByteWrite at h
  split at h
  · cases h
  · next w hw => cases h; exact ⟨w, hw, rfl⟩

theorem mmioByteWrite_same {s t : State} {a : Nat} {v : Byte} (h : s.mmioByteWrite a v = .ok t) :
    SameButPlanes s t := by
  obtain ⟨w, _, rfl⟩ := mmioByteWrite_cases h
  have hs := (commitBytes_same w.bytes s).1
  exact ⟨hs.crt, hs.seq, hs.gr, hs.attr, hs.dac, hs.misc, hs.latch, hs.cfg, hs.attached, hs.params, hs.requests,
    hs.response⟩

theorem mmioByteWrite_wf {s t : State} {a : Nat} {v : Byte} (h : s.mmioByteWrite a v = .ok t)
    (hw : ∀ q : Fin 4, Memory.wf s.planes[q] = true) (q : Fin 4) : Memory.wf t.planes[q] = true := by
  obtain ⟨w, _, rfl⟩ := mmioByteWrite_cases h
  exact commitBytes_wf _ _ hw q

/-- A plane byte that this byte's write does not reach keeps its value. -/
theorem mmioByteWrite_other {s t : State} {a : Nat} {v : Byte} (h : s.mmioByteWrite a v = .ok t)
    {p : Plane} {o : Nat} (hn : s.planeEnabled p = false ∨ s.rebase a ≠ some o) :
    t.planeRead p o = s.planeRead p o := by
  obtain ⟨w, hd, rfl⟩ := mmioByteWrite_cases h
  refine planeRead_commitBytes_other w.bytes s fun b hb => ?_
  obtain ⟨hr, hp⟩ := decodeWrite_bytes hd b hb
  by_cases hbp : b.plane = p
  · right
    intro ho
    subst hbp ho
    rcases hn with hn | hn
    · rw [hp] at hn; cases hn
    · exact hn hr
  · exact .inl hbp

/-- The bytes of an MMIO write change plane bytes and the counter of free values only (R250). -/
theorem mmioWriteBytes_same {bs : List Byte} {s t : State} {a : Nat} {first : Option Nat}
    (h : s.mmioWriteBytes a bs = .ok (t, first)) : SameButPlanes s t := by
  induction bs generalizing s t a first with
  | nil => cases h; exact .refl s
  | cons v vs ih =>
    unfold State.mmioWriteBytes at h
    split at h
    · split at h
      · cases h
      · next hr => cases h; exact ih hr
    · split at h
      · cases h
      · next hb => exact (mmioByteWrite_same hb).trans (ih h)

theorem mmioWriteBytes_wf {bs : List Byte} {s t : State} {a : Nat} {first : Option Nat}
    (h : s.mmioWriteBytes a bs = .ok (t, first)) (hw : ∀ q : Fin 4, Memory.wf s.planes[q] = true) (q : Fin 4) :
    Memory.wf t.planes[q] = true := by
  induction bs generalizing s t a first with
  | nil => cases h; exact hw q
  | cons v vs ih =>
    unfold State.mmioWriteBytes at h
    split at h
    · split at h
      · cases h
      · next hr => cases h; exact ih hr hw
    · split at h
      · cases h
      · next hb => exact ih h (mmioByteWrite_wf hb hw)

/-- Everything MMIO.W can answer with a next state (R250). -/
theorem execMmioW_cases {off : Offset} {bs : List Byte} {s u : State} (h : execMmioW off bs s = .next u) :
    s.attached = true ∧ ∃ t first, s.mmioWriteBytes off.toNat bs = .ok (t, first) ∧
      SameButPlanes s t ∧ u = t.respond none (mmioStatus first) := by
  unfold execMmioW at h
  split at h
  · next ha =>
    split at h
    · cases h
    · next hr => cases h; exact ⟨ha, _, _, hr, mmioWriteBytes_same hr, rfl⟩
  · cases h

/-- One MMIO read byte changes the latches at most (R254). -/
theorem mmioByteRead_state (s : State) (a : Nat) :
    (s.mmioByteRead a).2 = s ∨ ∃ o, s.rebase a = some o ∧ (s.mmioByteRead a).2 = s.loadLatches o := by
  unfold State.mmioByteRead State.decodeRead
  cases hr : s.rebase a with
  | none => exact .inl rfl
  | some r =>
    right
    refine ⟨r, rfl, ?_⟩
    cases s.chain4 <;> cases s.oddEven <;> rfl

/-- The bytes of an MMIO read change the latches only (R251). -/
theorem mmioReadBytes_state (n : Nat) (s : State) (a : Nat) :
    ∃ l, (s.mmioReadBytes a n).2.2 = { s with latch := l } := by
  induction n generalizing s a with
  | zero => exact ⟨s.latch, rfl⟩
  | succ n ih =>
    unfold State.mmioReadBytes
    split
    · exact ih s (a + 1)
    · obtain ⟨l, hl⟩ := ih (s.mmioByteRead a).2 (a + 1)
      refine ⟨l, hl.trans ?_⟩
      rcases mmioByteRead_state s a with h | ⟨o, _, h⟩ <;> rw [h]
      rfl

/-- An MMIO read returns as many bytes as were asked for (R251). -/
theorem mmioReadBytes_length (n : Nat) (s : State) (a : Nat) : (s.mmioReadBytes a n).1.length = n := by
  induction n generalizing s a with
  | zero => rfl
  | succ n ih =>
    unfold State.mmioReadBytes
    split <;> exact congrArg (· + 1) (ih _ _)

/-- One MMIO read byte changes no field but the latches. -/
theorem mmioByteRead_latch (s : State) (a : Nat) : ∃ l, (s.mmioByteRead a).2 = { s with latch := l } := by
  rcases mmioByteRead_state s a with h | ⟨o, _, h⟩ <;> rw [h]
  · exact ⟨s.latch, rfl⟩
  · exact ⟨_, rfl⟩

/-- The byte a read returns does not depend on the latches (R254). -/
theorem mmioByteRead_of_latch (s : State) (l : Vector Byte 4) (a : Nat) :
    (State.mmioByteRead { s with latch := l } a).1 = (s.mmioByteRead a).1 := by
  unfold State.mmioByteRead
  rw [show State.decodeRead { s with latch := l } a = s.decodeRead a from rfl]
  split <;> rfl

/-- Neither do the bytes of a request. -/
theorem mmioReadBytes_of_latch (n : Nat) (s : State) (l : Vector Byte 4) (a : Nat) :
    (State.mmioReadBytes { s with latch := l } a n).1 = (s.mmioReadBytes a n).1 := by
  induction n generalizing s a l with
  | zero => rfl
  | succ n ih =>
    unfold State.mmioReadBytes
    split
    · simp only
      exact congrArg _ (ih _ _ _)
    · simp only
      rw [mmioByteRead_of_latch]
      congr 1
      obtain ⟨l1, h1⟩ := mmioByteRead_latch { s with latch := l } a
      obtain ⟨l2, h2⟩ := mmioByteRead_latch s a
      rw [h1, h2, ih]
      exact (ih _ _ _).symm

/-- Byte k of an MMIO read (R251): 0x00 out of the window, else the byte its own offset gives. -/
theorem mmioReadBytes_get (n : Nat) (s : State) (a k : Nat) (hk : k < n) :
    (s.mmioReadBytes a n).1[k]? =
      some (if s.cfg.windowLen.toNat ≤ a + k then 0 else (s.mmioByteRead (a + k)).1) := by
  induction n generalizing s a k with
  | zero => omega
  | succ n ih =>
    unfold State.mmioReadBytes
    split
    · next h =>
      cases k with
      | zero => simp [h]
      | succ k =>
        simp only [List.getElem?_cons_succ]
        rw [ih _ _ k (by omega), show a + 1 + k = a + (k + 1) by omega]
    · next h =>
      cases k with
      | zero => simp [h]
      | succ k =>
        obtain ⟨l, hl⟩ := mmioByteRead_latch s a
        simp only [List.getElem?_cons_succ]
        rw [hl, mmioReadBytes_of_latch, ih _ _ k (by omega), show a + 1 + k = a + (k + 1) by omega]

/-- A one-byte MMIO read in the window and the map (R251, R254). -/
theorem execMmioR_one {s : State} {off : Offset} {p : Plane} {o : Nat} (ha : s.attached = true)
    (hw : off.toNat < s.cfg.windowLen.toNat) (hd : s.decodeRead off.toNat = some (p, o)) :
    execMmioR off 1 s = .next ((s.loadLatches o).respond (some (.mmio [s.planeRead p o])) .ok) := by
  simp only [execMmioR, if_pos ha, State.mmioReadBytes, if_neg (Nat.not_le.2 hw), State.mmioByteRead, hd]
  rfl

/-- Everything MMIO.R can answer with a next state (R251). -/
theorem execMmioR_cases {off : Offset} {len : Nat} {s u : State} (h : execMmioR off len s = .next u) :
    s.attached = true ∧ ∃ l bs first, bs.length = len ∧
      u = State.respond { s with latch := l } (some (.mmio bs)) (mmioStatus first) := by
  unfold execMmioR at h
  split at h
  · next ha =>
    cases h
    obtain ⟨l, hl⟩ := mmioReadBytes_state len s off.toNat
    exact ⟨ha, l, _, _, mmioReadBytes_length len s off.toNat, by rw [hl]⟩
  · cases h

end Sys2Proof.Laws
end

