-- ==== Sys2Proof/Laws/PerInstr.lean ====
section
/-! SUPPORT. What holds of every operation as syntax, one lemma per constructor: its request word carries the fixed bits
of its row of the opcode table. -/

namespace Sys2Proof.Laws

/-- The mask and the match of an operation's row of `opcode_table.json`. -/
def tableRow : Instr → Word × Word
  | .inCrtiMono _ => (0xFFFCFFFF, 0x000003B4)
  | .inCrtiColour _ => (0xFFFCFFFF, 0x000003D4)
  | .outCrtiMono _ => (0xFFFCFFFF, 0x200003B4)
  | .outCrtiColour _ => (0xFFFCFFFF, 0x200003D4)
  | .inCrtdMono _ => (0xFFFCFFFF, 0x000003B5)
  | .inCrtdColour _ => (0xFFFCFFFF, 0x000003D5)
  | .outCrtdMono _ => (0xFFFCFFFF, 0x200003B5)
  | .outCrtdColour _ => (0xFFFCFFFF, 0x200003D5)
  | .inSeqi _ => (0xFFFCFFFF, 0x000003C4)
  | .outSeqi _ => (0xFFFCFFFF, 0x200003C4)
  | .inSeqd _ => (0xFFFCFFFF, 0x000003C5)
  | .outSeqd _ => (0xFFFCFFFF, 0x200003C5)
  | .inGri _ => (0xFFFCFFFF, 0x000003CE)
  | .outGri _ => (0xFFFCFFFF, 0x200003CE)
  | .inGrd _ => (0xFFFCFFFF, 0x000003CF)
  | .outGrd _ => (0xFFFCFFFF, 0x200003CF)
  | .inAttr _ => (0xFFFCFFFF, 0x000003C0)
  | .outAttr _ => (0xFFFCFFFF, 0x200003C0)
  | .inAttrd _ => (0xFFFCFFFF, 0x000003C1)
  | .outAttrd _ => (0xFFFCFFFF, 0x200003C1)
  | .inDacri _ => (0xFFFCFFFF, 0x000003C7)
  | .outDacri _ => (0xFFFCFFFF, 0x200003C7)
  | .inDacwi _ => (0xFFFCFFFF, 0x000003C8)
  | .outDacwi _ => (0xFFFCFFFF, 0x200003C8)
  | .inDacd _ => (0xFFFCFFFF, 0x000003C9)
  | .outDacd _ => (0xFFFCFFFF, 0x200003C9)
  | .inSt0 _ => (0xFFFCFFFF, 0x000003C2)
  | .outMisc _ => (0xFFFCFFFF, 0x200003C2)
  | .inMiscr _ => (0xFFFCFFFF, 0x000003CC)
  | .outMiscr _ => (0xFFFCFFFF, 0x200003CC)
  | .inFeatr _ => (0xFFFCFFFF, 0x000003CA)
  | .outFeatr _ => (0xFFFCFFFF, 0x200003CA)
  | .inSt1Mono _ => (0xFFFCFFFF, 0x000003BA)
  | .inSt1Colour _ => (0xFFFCFFFF, 0x000003DA)
  | .outFeatMono _ => (0xFFFCFFFF, 0x200003BA)
  | .outFeatColour _ => (0xFFFCFFFF, 0x200003DA)
  | .inEna _ => (0xFFFCFFFF, 0x000003C3)
  | .outEna _ => (0xFFFCFFFF, 0x200003C3)
  | .inNone _ _ => (0xFFFC0000, 0x00000000)
  | .outNone _ _ => (0xFFFC0000, 0x20000000)
  | .mmioW _ _ => (0xE0000000, 0x60000000)
  | .mmioR _ _ => (0xE0000000, 0x40000000)
  | .hostAttach _ _ _ => (0xFFFFFFFF, 0x80000001)
  | .hostDetach => (0xFFFFFFFF, 0x80000002)
  | .hostDiag => (0xFFFFFFFF, 0x80000003)

/-- The top 14 bits of an I/O word, under the mask of the rows for any other port. -/
theorem ioWord_masked (h : BitVec 14) (z : BitVec 2) (p : Port) :
    ((h ++ z ++ p : Word) &&& 0xFFFC0000) = h ++ 0#18 := by
  have hmask : (0xFFFC0000 : Word) = 0x3FFF#14 ++ 0#18 := by decide
  have hones : ∀ j : Fin 14, (0x3FFF#14).getLsbD j = true := by decide
  rw [hmask]
  refine BitVec.eq_of_getLsbD_eq fun i hi => ?_
  simp only [BitVec.getLsbD_and, BitVec.getLsbD_append, BitVec.getLsbD_zero]
  by_cases h1 : i < 16
  · simp [h1, show i < 18 by omega]
  · by_cases h2 : i < 18
    · simp [h2]
    · have h3 : i - 18 < 14 := by omega
      simp only [h1, h2, if_false, show ¬ (i - 16 < 2) by omega, show i - 16 - 2 = i - 18 by omega, hones ⟨i - 18, h3⟩,
        Bool.and_true]

/-- The top 3 bits of an MMIO word, under the mask of the MMIO rows. -/
theorem mmioWord_masked (h : BitVec 3) (o : Offset) : ((h ++ o : Word) &&& 0xE0000000) = h ++ 0#29 := by
  have hmask : (0xE0000000 : Word) = 7#3 ++ 0#29 := by decide
  have hones : ∀ j : Fin 3, (7#3).getLsbD j = true := by decide
  rw [hmask]
  refine BitVec.eq_of_getLsbD_eq fun i hi => ?_
  simp only [BitVec.getLsbD_and, BitVec.getLsbD_append, BitVec.getLsbD_zero]
  by_cases h1 : i < 29
  · simp [h1]
  · have h2 : i - 29 < 3 := by omega
    simp only [h1, if_false, hones ⟨i - 29, h2⟩, Bool.and_true]

/-- The word an operation is encoded as matches its row. -/
def EncodeMatchesTable.Statement (i : Instr) : Prop :=
  (encode i).word &&& (tableRow i).1 = (tableRow i).2

theorem EncodeMatchesTable.inCrtiMono (size : IoSize) :
    EncodeMatchesTable.Statement (.inCrtiMono size) := 
  (fun z => by cases z <;> rfl : ∀ z, ioWord 0 0x3B4 z &&& 0xFFFCFFFF = 0x000003B4) size

theorem EncodeMatchesTable.inCrtiColour (size : IoSize) :
    EncodeMatchesTable.Statement (.inCrtiColour size) := 
  (fun z => by cases z <;> rfl : ∀ z, ioWord 0 0x3D4 z &&& 0xFFFCFFFF = 0x000003D4) size

theorem EncodeMatchesTable.outCrtiMono (d : IoData) :
    EncodeMatchesTable.Statement (.outCrtiMono d) := 
  (fun z => by cases z <;> rfl : ∀ z, ioWord 1 0x3B4 z &&& 0xFFFCFFFF = 0x200003B4) d.size

theorem EncodeMatchesTable.outCrtiColour (d : IoData) :
    EncodeMatchesTable.Statement (.outCrtiColour d) := 
  (fun z => by cases z <;> rfl : ∀ z, ioWord 1 0x3D4 z &&& 0xFFFCFFFF = 0x200003D4) d.size

theorem EncodeMatchesTable.inCrtdMono (size : IoSize) :
    EncodeMatchesTable.Statement (.inCrtdMono size) := 
  (fun z => by cases z <;> rfl : ∀ z, ioWord 0 0x3B5 z &&& 0xFFFCFFFF = 0x000003B5) size

theorem EncodeMatchesTable.inCrtdColour (size : IoSize) :
    EncodeMatchesTable.Statement (.inCrtdColour size) := 
  (fun z => by cases z <;> rfl : ∀ z, ioWord 0 0x3D5 z &&& 0xFFFCFFFF = 0x000003D5) size

theorem EncodeMatchesTable.outCrtdMono (d : IoData) :
    EncodeMatchesTable.Statement (.outCrtdMono d) := 
  (fun z => by cases z <;> rfl : ∀ z, ioWord 1 0x3B5 z &&& 0xFFFCFFFF = 0x200003B5) d.size

theorem EncodeMatchesTable.outCrtdColour (d : IoData) :
    EncodeMatchesTable.Statement (.outCrtdColour d) := 
  (fun z => by cases z <;> rfl : ∀ z, ioWord 1 0x3D5 z &&& 0xFFFCFFFF = 0x200003D5) d.size

theorem EncodeMatchesTable.inSeqi (size : IoSize) :
    EncodeMatchesTable.Statement (.inSeqi size) := 
  (fun z => by cases z <;> rfl : ∀ z, ioWord 0 0x3C4 z &&& 0xFFFCFFFF = 0x000003C4) size

theorem EncodeMatchesTable.outSeqi (d : IoData) :
    EncodeMatchesTable.Statement (.outSeqi d) := 
  (fun z => by cases z <;> rfl : ∀ z, ioWord 1 0x3C4 z &&& 0xFFFCFFFF = 0x200003C4) d.size

theorem EncodeMatchesTable.inSeqd (size : IoSize) :
    EncodeMatchesTable.Statement (.inSeqd size) := 
  (fun z => by cases z <;> rfl : ∀ z, ioWord 0 0x3C5 z &&& 0xFFFCFFFF = 0x000003C5) size

theorem EncodeMatchesTable.outSeqd (d : IoData) :
    EncodeMatchesTable.Statement (.outSeqd d) := 
  (fun z => by cases z <;> rfl : ∀ z, ioWord 1 0x3C5 z &&& 0xFFFCFFFF = 0x200003C5) d.size

theorem EncodeMatchesTable.inGri (size : IoSize) :
    EncodeMatchesTable.Statement (.inGri size) := 
  (fun z => by cases z <;> rfl : ∀ z, ioWord 0 0x3CE z &&& 0xFFFCFFFF = 0x000003CE) size

theorem EncodeMatchesTable.outGri (d : IoData) :
    EncodeMatchesTable.Statement (.outGri d) := 
  (fun z => by cases z <;> rfl : ∀ z, ioWord 1 0x3CE z &&& 0xFFFCFFFF = 0x200003CE) d.size

theorem EncodeMatchesTable.inGrd (size : IoSize) :
    EncodeMatchesTable.Statement (.inGrd size) := 
  (fun z => by cases z <;> rfl : ∀ z, ioWord 0 0x3CF z &&& 0xFFFCFFFF = 0x000003CF) size

theorem EncodeMatchesTable.outGrd (d : IoData) :
    EncodeMatchesTable.Statement (.outGrd d) := 
  (fun z => by cases z <;> rfl : ∀ z, ioWord 1 0x3CF z &&& 0xFFFCFFFF = 0x200003CF) d.size

theorem EncodeMatchesTable.inAttr (size : IoSize) :
    EncodeMatchesTable.Statement (.inAttr size) := 
  (fun z => by cases z <;> rfl : ∀ z, ioWord 0 0x3C0 z &&& 0xFFFCFFFF = 0x000003C0) size

theorem EncodeMatchesTable.outAttr (d : IoData) :
    EncodeMatchesTable.Statement (.outAttr d) := 
  (fun z => by cases z <;> rfl : ∀ z, ioWord 1 0x3C0 z &&& 0xFFFCFFFF = 0x200003C0) d.size

theorem EncodeMatchesTable.inAttrd (size : IoSize) :
    EncodeMatchesTable.Statement (.inAttrd size) := 
  (fun z => by cases z <;> rfl : ∀ z, ioWord 0 0x3C1 z &&& 0xFFFCFFFF = 0x000003C1) size

theorem EncodeMatchesTable.outAttrd (d : IoData) :
    EncodeMatchesTable.Statement (.outAttrd d) := 
  (fun z => by cases z <;> rfl : ∀ z, ioWord 1 0x3C1 z &&& 0xFFFCFFFF = 0x200003C1) d.size

theorem EncodeMatchesTable.inDacri (size : IoSize) :
    EncodeMatchesTable.Statement (.inDacri size) := 
  (fun z => by cases z <;> rfl : ∀ z, ioWord 0 0x3C7 z &&& 0xFFFCFFFF = 0x000003C7) size

theorem EncodeMatchesTable.outDacri (d : IoData) :
    EncodeMatchesTable.Statement (.outDacri d) := 
  (fun z => by cases z <;> rfl : ∀ z, ioWord 1 0x3C7 z &&& 0xFFFCFFFF = 0x200003C7) d.size

theorem EncodeMatchesTable.inDacwi (size : IoSize) :
    EncodeMatchesTable.Statement (.inDacwi size) := 
  (fun z => by cases z <;> rfl : ∀ z, ioWord 0 0x3C8 z &&& 0xFFFCFFFF = 0x000003C8) size

theorem EncodeMatchesTable.outDacwi (d : IoData) :
    EncodeMatchesTable.Statement (.outDacwi d) := 
  (fun z => by cases z <;> rfl : ∀ z, ioWord 1 0x3C8 z &&& 0xFFFCFFFF = 0x200003C8) d.size

theorem EncodeMatchesTable.inDacd (size : IoSize) :
    EncodeMatchesTable.Statement (.inDacd size) := 
  (fun z => by cases z <;> rfl : ∀ z, ioWord 0 0x3C9 z &&& 0xFFFCFFFF = 0x000003C9) size

theorem EncodeMatchesTable.outDacd (d : IoData) :
    EncodeMatchesTable.Statement (.outDacd d) := 
  (fun z => by cases z <;> rfl : ∀ z, ioWord 1 0x3C9 z &&& 0xFFFCFFFF = 0x200003C9) d.size

theorem EncodeMatchesTable.inSt0 (size : IoSize) :
    EncodeMatchesTable.Statement (.inSt0 size) := 
  (fun z => by cases z <;> rfl : ∀ z, ioWord 0 0x3C2 z &&& 0xFFFCFFFF = 0x000003C2) size

theorem EncodeMatchesTable.outMisc (d : IoData) :
    EncodeMatchesTable.Statement (.outMisc d) := 
  (fun z => by cases z <;> rfl : ∀ z, ioWord 1 0x3C2 z &&& 0xFFFCFFFF = 0x200003C2) d.size

theorem EncodeMatchesTable.inMiscr (size : IoSize) :
    EncodeMatchesTable.Statement (.inMiscr size) := 
  (fun z => by cases z <;> rfl : ∀ z, ioWord 0 0x3CC z &&& 0xFFFCFFFF = 0x000003CC) size

theorem EncodeMatchesTable.outMiscr (d : IoData) :
    EncodeMatchesTable.Statement (.outMiscr d) := 
  (fun z => by cases z <;> rfl : ∀ z, ioWord 1 0x3CC z &&& 0xFFFCFFFF = 0x200003CC) d.size

theorem EncodeMatchesTable.inFeatr (size : IoSize) :
    EncodeMatchesTable.Statement (.inFeatr size) := 
  (fun z => by cases z <;> rfl : ∀ z, ioWord 0 0x3CA z &&& 0xFFFCFFFF = 0x000003CA) size

theorem EncodeMatchesTable.outFeatr (d : IoData) :
    EncodeMatchesTable.Statement (.outFeatr d) := 
  (fun z => by cases z <;> rfl : ∀ z, ioWord 1 0x3CA z &&& 0xFFFCFFFF = 0x200003CA) d.size

theorem EncodeMatchesTable.inSt1Mono (size : IoSize) :
    EncodeMatchesTable.Statement (.inSt1Mono size) := 
  (fun z => by cases z <;> rfl : ∀ z, ioWord 0 0x3BA z &&& 0xFFFCFFFF = 0x000003BA) size

theorem EncodeMatchesTable.inSt1Colour (size : IoSize) :
    EncodeMatchesTable.Statement (.inSt1Colour size) := 
  (fun z => by cases z <;> rfl : ∀ z, ioWord 0 0x3DA z &&& 0xFFFCFFFF = 0x000003DA) size

theorem EncodeMatchesTable.outFeatMono (d : IoData) :
    EncodeMatchesTable.Statement (.outFeatMono d) := 
  (fun z => by cases z <;> rfl : ∀ z, ioWord 1 0x3BA z &&& 0xFFFCFFFF = 0x200003BA) d.size

theorem EncodeMatchesTable.outFeatColour (d : IoData) :
    EncodeMatchesTable.Statement (.outFeatColour d) := 
  (fun z => by cases z <;> rfl : ∀ z, ioWord 1 0x3DA z &&& 0xFFFCFFFF = 0x200003DA) d.size

theorem EncodeMatchesTable.inEna (size : IoSize) :
    EncodeMatchesTable.Statement (.inEna size) := 
  (fun z => by cases z <;> rfl : ∀ z, ioWord 0 0x3C3 z &&& 0xFFFCFFFF = 0x000003C3) size

theorem EncodeMatchesTable.outEna (d : IoData) :
    EncodeMatchesTable.Statement (.outEna d) := 
  (fun z => by cases z <;> rfl : ∀ z, ioWord 1 0x3C3 z &&& 0xFFFCFFFF = 0x200003C3) d.size

theorem EncodeMatchesTable.inNone (port : Port) (size : IoSize) :
    EncodeMatchesTable.Statement (.inNone port size) := ioWord_masked _ _ _

theorem EncodeMatchesTable.outNone (port : Port) (d : IoData) :
    EncodeMatchesTable.Statement (.outNone port d) := ioWord_masked _ _ _

theorem EncodeMatchesTable.mmioW (off : Offset) (bytes : List Byte) :
    EncodeMatchesTable.Statement (.mmioW off bytes) := mmioWord_masked _ _

theorem EncodeMatchesTable.mmioR (off : Offset) (len : Nat) :
    EncodeMatchesTable.Statement (.mmioR off len) := mmioWord_masked _ _

theorem EncodeMatchesTable.hostAttach (base length : BitVec 32) (ok : Bool) :
    EncodeMatchesTable.Statement (.hostAttach base length ok) := (by decide : encodeHostWord 0x01 &&& 0xFFFFFFFF = 0x80000001)

theorem EncodeMatchesTable.hostDetach :
    EncodeMatchesTable.Statement (.hostDetach) := by
  unfold EncodeMatchesTable.Statement; decide

theorem EncodeMatchesTable.hostDiag :
    EncodeMatchesTable.Statement (.hostDiag) := by
  unfold EncodeMatchesTable.Statement; decide

end Sys2Proof.Laws
end

