-- ==== Sys2Proof/Laws/Step.lean ====
section
/-! SUPPORT. Runs of requests, one equation per request, and what the three words of an I/O operation are decoded as. -/

namespace Sys2Proof.Laws

open Sys2Proof.Machine

/-- A run whose first step answers a next state goes on from it. -/
theorem core_run_succ {M : Host.Core} {k : Nat} {s t : M.State} (h : M.step s = .next t) :
    M.run (k + 1) s = M.run k t := by
  rw [Host.Core.run, h]

@[simp] theorem runSteps_zero (s : State) : runSteps 0 s = .next s := rfl

/-- A run that starts with a request whose operation answers a next state goes on from that state. -/
theorem runSteps_enqueue {k : Nat} {s t : State} {r : Request} {rs : List Request} {i : Instr}
    (hd : decode r = .ok i) (he : exec i (s.enqueue rs) = .next t) :
    runSteps (k + 1) (s.enqueue (r :: rs)) = runSteps k t := by
  have hf : (s.enqueue (r :: rs)).fetch = .run i (s.enqueue rs).requests := by
    simp [State.fetch, State.enqueue, hd]
  have hs : step (s.enqueue (r :: rs)) = .next t := by
    unfold step
    rw [hf]
    exact he
  exact core_run_succ (M := Sys2Proof.core) hs

/-- A run that starts with a one-byte write of a port: `op` is the port's OpWrite. -/
theorem runSteps_reqOut {k : Nat} {s : State} {rs : List Request} (port : Port) (v : Byte)
    (op : Byte → State → State) (he : ∀ d u, exec (decodeOut port d) u = ioWrite port op d u)
    (ha : s.attached = true) :
    runSteps (k + 1) (s.enqueue (reqOut port v :: rs)) = runSteps k ((op v (s.enqueue rs)).respond none .ok) :=
  runSteps_enqueue (decode_encodeOut _ _) ((he _ _).trans (ioWrite_runs _ _ _ _ ha (.inl rfl)))

/-- A run that starts with a one-byte read of a port: `op` is the port's OpRead. -/
theorem runSteps_reqIn {k : Nat} {s : State} {rs : List Request} (port : Port) (op : State → Byte × State)
    (he : ∀ z u, exec (decodeIn port z) u = ioRead port op z u) (ha : s.attached = true) :
    runSteps (k + 1) (s.enqueue (reqIn port :: rs)) =
      runSteps k ((op (s.enqueue rs)).2.respond (some (.io (.b8 (op (s.enqueue rs)).1))) .ok) :=
  runSteps_enqueue (decode_encodeIn _ _) ((he _ _).trans (ioRead_runs _ _ _ _ ha (.inl rfl)))

/-! ### What a port does does not depend on the requests still pending -/

@[simp] theorem enqueue_nil (s : State) : s.enqueue [] = s := rfl

@[simp] theorem enqueue_respond (s : State) (rs : List Request) (d : Option ReadData) (st : Status) :
    (s.enqueue rs).respond d st = (s.respond d st).enqueue rs := rfl

@[simp] theorem opOutCrti_enqueue (v : Byte) (s : State) (rs : List Request) :
    opOutCrti v (s.enqueue rs) = (opOutCrti v s).enqueue rs := rfl

@[simp] theorem opOutCrtd_enqueue (v : Byte) (s : State) (rs : List Request) :
    opOutCrtd v (s.enqueue rs) = (opOutCrtd v s).enqueue rs := rfl

@[simp] theorem opOutSeqi_enqueue (v : Byte) (s : State) (rs : List Request) :
    opOutSeqi v (s.enqueue rs) = (opOutSeqi v s).enqueue rs := rfl

@[simp] theorem opOutSeqd_enqueue (v : Byte) (s : State) (rs : List Request) :
    opOutSeqd v (s.enqueue rs) = (opOutSeqd v s).enqueue rs := rfl

@[simp] theorem opOutGri_enqueue (v : Byte) (s : State) (rs : List Request) :
    opOutGri v (s.enqueue rs) = (opOutGri v s).enqueue rs := rfl

@[simp] theorem opOutGrd_enqueue (v : Byte) (s : State) (rs : List Request) :
    opOutGrd v (s.enqueue rs) = (opOutGrd v s).enqueue rs := rfl

@[simp] theorem opOutAttr_enqueue (v : Byte) (s : State) (rs : List Request) :
    opOutAttr v (s.enqueue rs) = (opOutAttr v s).enqueue rs := by
  cases h : s.attr.flip <;> simp only [opOutAttr, enqueue_attr, h] <;> rfl

@[simp] theorem opOutDacri_enqueue (v : Byte) (s : State) (rs : List Request) :
    opOutDacri v (s.enqueue rs) = (opOutDacri v s).enqueue rs := rfl

@[simp] theorem opOutDacwi_enqueue (v : Byte) (s : State) (rs : List Request) :
    opOutDacwi v (s.enqueue rs) = (opOutDacwi v s).enqueue rs := rfl

@[simp] theorem opOutDacd_enqueue (v : Byte) (s : State) (rs : List Request) :
    opOutDacd v (s.enqueue rs) = (opOutDacd v s).enqueue rs := rfl

@[simp] theorem opOutMisc_enqueue (v : Byte) (s : State) (rs : List Request) :
    opOutMisc v (s.enqueue rs) = (opOutMisc v s).enqueue rs := rfl

@[simp] theorem opOutFeat_enqueue (v : Byte) (s : State) (rs : List Request) :
    opOutFeat v (s.enqueue rs) = (opOutFeat v s).enqueue rs := rfl

@[simp] theorem opInCrti_enqueue (s : State) (rs : List Request) :
    opInCrti (s.enqueue rs) = ((opInCrti s).1, (opInCrti s).2.enqueue rs) := rfl

@[simp] theorem opInCrtd_enqueue (s : State) (rs : List Request) :
    opInCrtd (s.enqueue rs) = ((opInCrtd s).1, (opInCrtd s).2.enqueue rs) := rfl

@[simp] theorem opInSeqi_enqueue (s : State) (rs : List Request) :
    opInSeqi (s.enqueue rs) = ((opInSeqi s).1, (opInSeqi s).2.enqueue rs) := rfl

@[simp] theorem opInSeqd_enqueue (s : State) (rs : List Request) :
    opInSeqd (s.enqueue rs) = ((opInSeqd s).1, (opInSeqd s).2.enqueue rs) := rfl

@[simp] theorem opInGri_enqueue (s : State) (rs : List Request) :
    opInGri (s.enqueue rs) = ((opInGri s).1, (opInGri s).2.enqueue rs) := rfl

@[simp] theorem opInGrd_enqueue (s : State) (rs : List Request) :
    opInGrd (s.enqueue rs) = ((opInGrd s).1, (opInGrd s).2.enqueue rs) := rfl

@[simp] theorem opInAttr_enqueue (s : State) (rs : List Request) :
    opInAttr (s.enqueue rs) = ((opInAttr s).1, (opInAttr s).2.enqueue rs) := rfl

@[simp] theorem opInAttrd_enqueue (s : State) (rs : List Request) :
    opInAttrd (s.enqueue rs) = ((opInAttrd s).1, (opInAttrd s).2.enqueue rs) := rfl

@[simp] theorem opInDacri_enqueue (s : State) (rs : List Request) :
    opInDacri (s.enqueue rs) = ((opInDacri s).1, (opInDacri s).2.enqueue rs) := rfl

@[simp] theorem opInDacwi_enqueue (s : State) (rs : List Request) :
    opInDacwi (s.enqueue rs) = ((opInDacwi s).1, (opInDacwi s).2.enqueue rs) := rfl

@[simp] theorem opInDacd_enqueue (s : State) (rs : List Request) :
    opInDacd (s.enqueue rs) = ((opInDacd s).1, (opInDacd s).2.enqueue rs) := rfl

@[simp] theorem opInSt0_enqueue (s : State) (rs : List Request) :
    opInSt0 (s.enqueue rs) = ((opInSt0 s).1, (opInSt0 s).2.enqueue rs) := rfl

@[simp] theorem opInMiscr_enqueue (s : State) (rs : List Request) :
    opInMiscr (s.enqueue rs) = ((opInMiscr s).1, (opInMiscr s).2.enqueue rs) := rfl

@[simp] theorem opInFeatr_enqueue (s : State) (rs : List Request) :
    opInFeatr (s.enqueue rs) = ((opInFeatr s).1, (opInFeatr s).2.enqueue rs) := rfl

@[simp] theorem opInSt1_enqueue (s : State) (rs : List Request) :
    opInSt1 (s.enqueue rs) = ((opInSt1 s).1, (opInSt1 s).2.enqueue rs) := rfl

@[simp] theorem opInEna_enqueue (s : State) (rs : List Request) :
    opInEna (s.enqueue rs) = ((opInEna s).1, (opInEna s).2.enqueue rs) := rfl

@[simp] theorem opReadNone_enqueue (s : State) (rs : List Request) :
    opReadNone (s.enqueue rs) = ((opReadNone s).1, (opReadNone s).2.enqueue rs) := rfl

/-- The words of a port's IN operation. -/
theorem readWord_of (port : Port) {w : Word} {i : IoSize → Instr} (hi : ∀ z, decodeIn port z = i z)
    (h1 : w = ioWord 0 port .byte) (h2 : w ||| 0x10000 = ioWord 0 port .word)
    (h4 : w ||| 0x20000 = ioWord 0 port .dword) : ReadWord w i := by
  refine ⟨?_, ?_, ?_⟩
  · rw [h1, ← hi]; exact decode_encodeIn _ _
  · rw [h2, ← hi]; exact decode_encodeIn _ _
  · rw [h4, ← hi]; exact decode_encodeIn _ _

/-- The words of a port's OUT operation, with the value they write. -/
theorem writeWord_of (port : Port) {w : Word} {i : IoData → Instr} (hi : ∀ d, decodeOut port d = i d)
    (h1 : w = ioWord 1 port .byte) (h2 : w ||| 0x10000 = ioWord 1 port .word)
    (h4 : w ||| 0x20000 = ioWord 1 port .dword) : WriteWord w i := by
  have key : ∀ (z : IoSize) (v : BitVec 32),
      decode { word := ioWord 1 port z, wdata := v } = .ok (decodeOut port (decodeData z v)) := by
    intro z v
    unfold decode decodeIo
    simp [fieldSpace_ioWord, fieldIoReserved_ioWord, fieldSz_ioWord, fieldDir_ioWord, fieldPort_ioWord]
  intro v
  refine ⟨?_, ?_, ?_⟩
  · rw [h1, key, hi]; rfl
  · rw [h2, key, hi]; rfl
  · rw [h4, key, hi]; rfl

end Sys2Proof.Laws
end

