-- ==== Sys2Proof/Tests/Slice0.lean ====
section
/-! SUPPORT. The tests: ill-formed operations, the decoding of words written out from the encoding rules (R112 to R120),
one-step tests from the vectors of `95_test_vectors.md` (V<n>), and for every obligation with hypotheses a state and
operands that meet them. -/

namespace Sys2Proof.Tests

open Sys2Proof Sys2Proof.Machine

-- One theorem after another: elaborated all at once they ask for more threads than the memory limit allows.
set_option Elab.async false

/-! ### WellFormed -/

/-- R122: IN.NONE and OUT.NONE at a port with a row of its own are no operations. -/
theorem test_ill_formed_none :
    WellFormed (.inNone 0x3C4 .byte) = false ∧ WellFormed (.outNone 0x3DA (.b8 1)) = false ∧
    WellFormed (.inNone 0x3C6 .byte) = true ∧ WellFormed (.outNone 0x0080 (.b16 1)) = true := by decide

/-! ### Decoding: one word per row, `space_dir_reserved_sz_port` written out in bits (R112) -/

theorem test_decode_inCrtiMono :
    decode { word := 0b00_0_00000000000_00_0000001110110100 } = .ok (.inCrtiMono .byte) := rfl

theorem test_decode_inCrtiColour :
    decode { word := 0b00_0_00000000000_01_0000001111010100 } = .ok (.inCrtiColour .word) := rfl

theorem test_decode_outCrtiMono :
    decode { word := 0b00_1_00000000000_10_0000001110110100, wdata := 0xA5 } = .ok (.outCrtiMono (.b32 0xA5)) := rfl

theorem test_decode_outCrtiColour :
    decode { word := 0b00_1_00000000000_00_0000001111010100, wdata := 0xA5 } = .ok (.outCrtiColour (.b8 0xA5)) := rfl

theorem test_decode_inCrtdMono :
    decode { word := 0b00_0_00000000000_01_0000001110110101 } = .ok (.inCrtdMono .word) := rfl

theorem test_decode_inCrtdColour :
    decode { word := 0b00_0_00000000000_10_0000001111010101 } = .ok (.inCrtdColour .dword) := rfl

theorem test_decode_outCrtdMono :
    decode { word := 0b00_1_00000000000_00_0000001110110101, wdata := 0xA5 } = .ok (.outCrtdMono (.b8 0xA5)) := rfl

theorem test_decode_outCrtdColour :
    decode { word := 0b00_1_00000000000_01_0000001111010101, wdata := 0xA5 } = .ok (.outCrtdColour (.b16 0xA5)) := rfl

theorem test_decode_inSeqi :
    decode { word := 0b00_0_00000000000_10_0000001111000100 } = .ok (.inSeqi .dword) := rfl

theorem test_decode_outSeqi :
    decode { word := 0b00_1_00000000000_00_0000001111000100, wdata := 0xA5 } = .ok (.outSeqi (.b8 0xA5)) := rfl

theorem test_decode_inSeqd :
    decode { word := 0b00_0_00000000000_01_0000001111000101 } = .ok (.inSeqd .word) := rfl

theorem test_decode_outSeqd :
    decode { word := 0b00_1_00000000000_10_0000001111000101, wdata := 0xA5 } = .ok (.outSeqd (.b32 0xA5)) := rfl

theorem test_decode_inGri :
    decode { word := 0b00_0_00000000000_00_0000001111001110 } = .ok (.inGri .byte) := rfl

theorem test_decode_outGri :
    decode { word := 0b00_1_00000000000_01_0000001111001110, wdata := 0xA5 } = .ok (.outGri (.b16 0xA5)) := rfl

theorem test_decode_inGrd :
    decode { word := 0b00_0_00000000000_10_0000001111001111 } = .ok (.inGrd .dword) := rfl

theorem test_decode_outGrd :
    decode { word := 0b00_1_00000000000_00_0000001111001111, wdata := 0xA5 } = .ok (.outGrd (.b8 0xA5)) := rfl

theorem test_decode_inAttr :
    decode { word := 0b00_0_00000000000_01_0000001111000000 } = .ok (.inAttr .word) := rfl

theorem test_decode_outAttr :
    decode { word := 0b00_1_00000000000_10_0000001111000000, wdata := 0xA5 } = .ok (.outAttr (.b32 0xA5)) := rfl

theorem test_decode_inAttrd :
    decode { word := 0b00_0_00000000000_00_0000001111000001 } = .ok (.inAttrd .byte) := rfl

theorem test_decode_outAttrd :
    decode { word := 0b00_1_00000000000_01_0000001111000001, wdata := 0xA5 } = .ok (.outAttrd (.b16 0xA5)) := rfl

theorem test_decode_inDacri :
    decode { word := 0b00_0_00000000000_10_0000001111000111 } = .ok (.inDacri .dword) := rfl

theorem test_decode_outDacri :
    decode { word := 0b00_1_00000000000_00_0000001111000111, wdata := 0xA5 } = .ok (.outDacri (.b8 0xA5)) := rfl

theorem test_decode_inDacwi :
    decode { word := 0b00_0_00000000000_01_0000001111001000 } = .ok (.inDacwi .word) := rfl

theorem test_decode_outDacwi :
    decode { word := 0b00_1_00000000000_10_0000001111001000, wdata := 0xA5 } = .ok (.outDacwi (.b32 0xA5)) := rfl

theorem test_decode_inDacd :
    decode { word := 0b00_0_00000000000_00_0000001111001001 } = .ok (.inDacd .byte) := rfl

theorem test_decode_outDacd :
    decode { word := 0b00_1_00000000000_01_0000001111001001, wdata := 0xA5 } = .ok (.outDacd (.b16 0xA5)) := rfl

theorem test_decode_inSt0 :
    decode { word := 0b00_0_00000000000_10_0000001111000010 } = .ok (.inSt0 .dword) := rfl

theorem test_decode_outMisc :
    decode { word := 0b00_1_00000000000_00_0000001111000010, wdata := 0xA5 } = .ok (.outMisc (.b8 0xA5)) := rfl

theorem test_decode_inMiscr :
    decode { word := 0b00_0_00000000000_01_0000001111001100 } = .ok (.inMiscr .word) := rfl

theorem test_decode_outMiscr :
    decode { word := 0b00_1_00000000000_10_0000001111001100, wdata := 0xA5 } = .ok (.outMiscr (.b32 0xA5)) := rfl

theorem test_decode_inFeatr :
    decode { word := 0b00_0_00000000000_00_0000001111001010 } = .ok (.inFeatr .byte) := rfl

theorem test_decode_outFeatr :
    decode { word := 0b00_1_00000000000_01_0000001111001010, wdata := 0xA5 } = .ok (.outFeatr (.b16 0xA5)) := rfl

theorem test_decode_inSt1Mono :
    decode { word := 0b00_0_00000000000_10_0000001110111010 } = .ok (.inSt1Mono .dword) := rfl

theorem test_decode_inSt1Colour :
    decode { word := 0b00_0_00000000000_00_0000001111011010 } = .ok (.inSt1Colour .byte) := rfl

theorem test_decode_outFeatMono :
    decode { word := 0b00_1_00000000000_01_0000001110111010, wdata := 0xA5 } = .ok (.outFeatMono (.b16 0xA5)) := rfl

theorem test_decode_outFeatColour :
    decode { word := 0b00_1_00000000000_10_0000001111011010, wdata := 0xA5 } = .ok (.outFeatColour (.b32 0xA5)) := rfl

theorem test_decode_inEna :
    decode { word := 0b00_0_00000000000_00_0000001111000011 } = .ok (.inEna .byte) := rfl

theorem test_decode_outEna :
    decode { word := 0b00_1_00000000000_01_0000001111000011, wdata := 0xA5 } = .ok (.outEna (.b16 0xA5)) := rfl

theorem test_decode_inNone :
    decode { word := 0b00_0_00000000000_10_0000001111000110 } = .ok (.inNone 0x3C6 .dword) := rfl

theorem test_decode_outNone :
    decode { word := 0b00_1_00000000000_00_0000001111010000, wdata := 0xA5 } = .ok (.outNone 0x3D0 (.b8 0xA5)) := rfl

theorem test_decode_mmioW :
    decode { word := 0b01_1_00000000000000001000100000011, wbytes := [0x11, 0x22] } = .ok (.mmioW 0x1103 [0x11, 0x22]) :=
  rfl

theorem test_decode_mmioR : decode { word := 0b01_0_10000000000000000000000000001, len := 4 } = .ok (.mmioR 0x10000001 4) :=
  rfl

theorem test_decode_hostAttach :
    decode { word := 0b10_0_000000000000000000000_00000001, base := 0xB8000, length := 0x8000, attachOk := true } =
      .ok (.hostAttach 0xB8000 0x8000 true) := rfl

theorem test_decode_hostDetach : decode { word := 0b10_0_000000000000000000000_00000010 } = .ok .hostDetach := rfl

theorem test_decode_hostDiag : decode { word := 0b10_0_000000000000000000000_00000011 } = .ok .hostDiag := rfl

/-- V45, and one word more for each reserved form of R119. -/
theorem test_decode_reserved :
    decode { word := 0x000303C4 } = .error .ioSize ∧ decode { word := 0x000403C4 } = .error .ioBits ∧
    decode { word := 0xC0000000 } = .error .space ∧ decode { word := 0xA0000001 } = .error .hostDir ∧
    decode { word := 0x80000004 } = .error .hostOp ∧ decode { word := 0x80000101 } = .error .hostBits ∧
    decode { word := 0x80000000 } = .error .hostOp ∧ decode { word := 0x90000001 } = .error .hostBits ∧
    decode { word := 0x100003C4 } = .error .ioBits ∧ decode { word := 0xE0000000 } = .error .space :=
  ⟨rfl, rfl, rfl, rfl, rfl, rfl, rfl, rfl, rfl, rfl⟩

/-- A table word spells the row's operation, with zero operands. -/
theorem test_decode_table_word :
    decodeTableWord 32 0x200003C9 = some (.outDacd (.b8 0)) ∧ decodeTableWord 32 0x60000000 = some (.mmioW 0 []) := by
  decide

/-! ### One step -/

/-- The state an operation answers, if it completes. -/
def next? : Result → Option State
  | .next s => some s
  | _ => none

/-- The response an operation answers, if it completes. -/
def response? (r : Result) : Option Response := (next? r).bind (·.response)

/-- The reason an operation is refused for. -/
def refusal? : Result → Option Refusal
  | .refused why => some why
  | _ => none

/-- `s` with a byte in one Sequencer register. -/
def withSeq (i v : Byte) (s : State) : State := { s with seq := { s.seq with data := s.seq.data.set i.toNat v i.isLt } }

/-- `s` with a byte in one Graphics register. -/
def withGr (i v : Byte) (s : State) : State := { s with gr := { s.gr with data := s.gr.data.set i.toNat v i.isLt } }

/-- `s` with one plane byte set. -/
def withPlane (p : Plane) (o : Nat) (v : Byte) (s : State) : State := s.planeWrite p o v

/-- `s` under another policy for wide I/O. -/
def ignoring (s : State) : State := { s with params := { s.params with wideIo := .ignore } }

/-- `s` under another policy for write modes 1 to 3. -/
def under (p : Config.WriteMode123Policy) (s : State) : State :=
  { s with params := { s.params with writeMode123 := p } }

/-- A detached block with no request pending. -/
def detached : State := State.reset.discard

/-- All planes enabled and every bit written: planar write mode 0 (R333, R334). -/
def planar : State := withGr 0x08 0xFF (withSeq 0x02 0x0F State.reset)

/-- The attribute latch of `State.reset` with an index and a flip-flop. -/
def withAttr (i : Byte) (f : Bool) : State :=
  { State.reset with attr := { State.reset.attr with index := i, flip := f } }

/-- The DAC of `State.reset` with its cursors, sub-index and pending bytes. -/
def withDac (r w : Byte) (sub : Fin 3) (p : Vector Byte 3) : State :=
  { State.reset with dac := { State.reset.dac with readIndex := r, writeIndex := w, subIndex := sub, pending := p } }

/-- The latches of `s` set. -/
def withLatch (l : Vector Byte 4) (s : State) : State := { s with latch := l }

theorem next_of {r : Result} (h : (next? r).isSome = true) : ∃ t, r = .next t := by
  cases r with
  | next s => exact ⟨s, rfl⟩
  | fault f => cases f
  | refused w => cases h

/-- V1: either alias writes the one CRT index, and reads it. -/
theorem test_crt_index_alias :
    (next? (exec (.outCrtiColour (.b8 0x11)) State.reset)).map (fun t => t.crt.index) = some 0x11 ∧
    response? (exec (.inCrtiMono .byte) { State.reset with crt := { State.reset.crt with index := 0x11 } }) = gaveByte 0x11 := by
  decide +kernel

/-- V2, V9: the CRT data ports reach the selected register of the one bank. -/
theorem test_crt_data :
    (next? (exec (.outCrtdColour (.b8 0xFF)) { State.reset with crt := { State.reset.crt with index := 0x0C } })).map
      (fun t => (t.crt.slot 0x0C, t.crt.slot 0x0B, t.crt.index)) = some (0xFF, 0x00, 0x0C) := by decide +kernel

/-- V3. -/
theorem test_seq_index_unmasked :
    (next? (exec (.outSeqi (.b8 0xFF)) State.reset)).map (fun t => t.seq.index) = some 0xFF := by decide +kernel

/-- V5: the write goes to the selected register, so the map mask stays 0. -/
theorem test_seq_data_at_index_zero :
    (next? (exec (.outSeqd (.b8 0x0F)) State.reset)).map (fun t => (t.seq.slot 0, t.mapMask)) = some (0x0F, 0) := by
  decide +kernel

/-- V6: no auto-increment. -/
theorem test_seq_data_read :
    (next? (exec (.inSeqd .byte) { withSeq 2 0x0F State.reset with seq := { (withSeq 2 0x0F State.reset).seq with index := 2 } })).map
      (fun t => (t.response, t.seq.index)) = some (gaveByte 0x0F, 2) := by decide +kernel

/-- V8: the register keeps 8 bits, the field has 4. -/
theorem test_map_mask_field :
    (withSeq 2 0xF5 State.reset).mapMask = 0x5 ∧ (withSeq 2 0xF5 State.reset).seq.slot 2 = 0xF5 := by decide +kernel

/-- R163: the index is unmasked and the flip-flop is not touched. -/
theorem test_gr_index :
    (next? (exec (.outGri (.b8 0x48)) (withAttr 3 true))).map (fun t => (t.gr.index, t.attr.flip, t.attr.index)) = some (0x48, true, 3) := by
  decide +kernel

/-- V7: nothing of the attribute latch changes. -/
theorem test_gr_data_no_fall_through :
    (next? (exec (.outGrd (.b8 0x12)) (withAttr 1 true))).map (fun t => (t.gr.slot 0, t.attr.data[1], t.attr.flip)) =
      some (0x12, 0, true) := by decide +kernel

/-- V18: the top two bits are dropped, bit 5 is kept. -/
theorem test_attr_index_write :
    (next? (exec (.outAttr (.b8 0xE5)) State.reset)).map (fun t => (t.attr.index, t.attr.flip)) = some (0x25, true) := by
  decide +kernel

/-- V12, V19: the register is the low 5 bits of the index; the mask is the register's. -/
theorem test_attr_data_write :
    (next? (exec (.outAttr (.b8 0xFF)) (withAttr 0x30 true))).map (fun t => (t.attr.data[0x10], t.attr.index, t.attr.flip)) =
      some (0xEF, 0x30, false) := by decide +kernel

/-- V10 to V17. -/
theorem test_attr_masks :
    [0x00, 0x0F, 0x10, 0x11, 0x12, 0x13, 0x14, 0x15, 0x1F].map attrMask =
      [0x3F, 0x3F, 0xEF, 0xFF, 0x3F, 0x0F, 0x0F, 0xFF, 0xFF] := by decide +kernel

/-- V20: 0x00 in AwaitData, the index in AwaitIndex. -/
theorem test_attr_read :
    response? (exec (.inAttr .byte) (withAttr 7 true)) = gaveByte 0x00 ∧
    response? (exec (.inAttr .byte) (withAttr 0x25 false)) = gaveByte 0x25 := by decide +kernel

/-- V22. -/
theorem test_attr_data_port_write_ignored :
    (next? (exec (.outAttrd (.b8 0x12)) (withAttr 6 true))).map (fun t => (t.attr.data[6], t.attr.flip)) = some (0, true) := by
  decide +kernel

/-- V21, V24: both aliases. -/
theorem test_status1_resets_flip :
    (next? (exec (.inSt1Mono .byte) (withAttr 3 true))).map (fun t => (t.response, t.attr.flip)) = some (gaveByte 0, false) ∧
    (next? (exec (.inSt1Colour .byte) (withAttr 3 true))).map (fun t => (t.response, t.attr.flip)) = some (gaveByte 0, false) := by
  decide +kernel

/-- V23, V25: neither the write of 0x3DA nor the read of 0x3CA resets the flip-flop. -/
theorem test_feature_ports_keep_flip :
    (next? (exec (.outFeatColour (.b8 0xA5)) (withAttr 1 true))).map (fun t => (t.misc.feature, t.attr.flip)) =
      some (0xA5, true) ∧
    (next? (exec (.inFeatr .byte) (withAttr 1 true))).map (fun t => t.attr.flip) = some true := by decide +kernel

/-- V26, V27: the triplet is committed masked, and the write index wraps. -/
theorem test_dac_third_component_commits :
    (next? (exec (.outDacd (.b8 0xC3)) (withDac 9 0xFF 2 #v[1, 2, 0x3F]))).map
      (fun t => (t.dac.palette[0xFF], t.dac.writeIndex, t.dac.subIndex, t.dac.readIndex)) = some (#v[1, 2, 3], 0, 0, 9) := by
  decide +kernel

/-- R190: nothing is committed before the third component. -/
theorem test_dac_second_component_pends :
    (next? (exec (.outDacd (.b8 0x80)) (withDac 0 0x10 1 #v[0x3F, 5, 6]))).map
      (fun t => (t.dac.pending, t.dac.subIndex, t.dac.palette[0x10])) = some (#v[0x3F, 0, 6], 2, #v[0, 0, 0]) := by
  decide +kernel

/-- V28: the third read moves the read index on, and it wraps. -/
theorem test_dac_read_wraps :
    (next? (exec (.inDacd .byte) (withDac 0xFF 4 2 #v[1, 2, 3]))).map
      (fun t => (t.response, t.dac.readIndex, t.dac.subIndex, t.dac.writeIndex)) = some (gaveByte 0, 0, 0, 4) := by
  decide +kernel

/-- V29, V33: an index write abandons the triplet, keeps pending, and sets the marker. -/
theorem test_dac_write_index :
    (next? (exec (.outDacwi (.b8 0x21)) (withDac 7 0x20 2 #v[1, 2, 0]))).map (fun t => t.dac) =
      some { State.reset.dac with writeIndex := 0x21, readIndex := 7, pending := #v[1, 2, 0] } := by decide +kernel

/-- V29, V33: likewise for the read index, with marker 3. -/
theorem test_dac_read_index :
    (next? (exec (.outDacri (.b8 0x10)) (withDac 7 0x20 2 #v[1, 2, 0]))).map (fun t => t.dac) =
      some { State.reset.dac with writeIndex := 0x20, readIndex := 0x10, pending := #v[1, 2, 0], dacState := 3 } := by
  decide +kernel

/-- V31, V32. -/
theorem test_dac_index_reads :
    response? (exec (.inDacri .byte) (withDac 0x11 0xAB 0 #v[0, 0, 0])) = gaveByte 0x11 ∧
    response? (exec (.inDacwi .byte) (withDac 0x11 0xAB 0 #v[0, 0, 0])) = gaveByte 0xAB := by decide +kernel

/-- V33. -/
theorem test_diag_reads_marker :
    response? (exec .hostDiag { State.reset with dac := State.reset.dac.setReadIndex 0 }) =
      some { rdata := some (.diag 3), status := .ok } := by decide +kernel

/-- V35, V36. -/
theorem test_misc_output :
    (next? (exec (.outMisc (.b8 0xFF)) State.reset)).map (fun t => t.misc.output) = some 0xEF ∧
    (next? (exec (.outMiscr (.b8 0x01)) { State.reset with misc := { State.reset.misc with output := 0x63 } })).map
      (fun t => t.misc.output) = some 0x63 := by decide +kernel

/-- V35: 0x3C2 reads input status 0, 0x3CC reads output. -/
theorem test_misc_reads :
    response? (exec (.inSt0 .byte) { State.reset with misc := { State.reset.misc with output := 0x67 } }) = gaveByte 0 ∧
    response? (exec (.inMiscr .byte) { State.reset with misc := { State.reset.misc with output := 0x67 } }) = gaveByte 0x67 := by
  decide +kernel

/-- V37, V38. -/
theorem test_feature_written_at_status_port_only :
    (next? (exec (.outFeatMono (.b8 0xA5)) State.reset)).map (fun t => (t.misc.feature, t.misc.status1)) = some (0xA5, 0) ∧
    (next? (exec (.outFeatr (.b8 0x05)) State.reset)).map (fun t => t.misc.feature) = some 0 := by decide +kernel

/-- V39. -/
theorem test_enable_port :
    response? (exec (.inEna .byte) State.reset) = gaveByte 0 ∧
    (next? (exec (.outEna (.b8 0)) State.reset)).map (fun t => t.attached) = some true := by decide +kernel

/-- V41. -/
theorem test_unmapped_port :
    response? (exec (.inNone 0x3C6 .byte) State.reset) = gaveByte 0 ∧
    response? (exec (.outNone 0x3C6 (.b8 0xFF)) State.reset) = some { rdata := none, status := .ok } := by
  decide +kernel

/-- V42: TRUNCATE writes the low byte to this port alone, IGNORE nothing; the width is signalled. -/
theorem test_wide_write :
    (next? (exec (.outSeqi (.b16 0x0F02)) State.reset)).map (fun t => (t.seq.index, t.seq.slot 2, t.response)) =
      some (2, 0, some { rdata := none, status := .invalidAccessWidth 0x3C4 .word }) ∧
    (next? (exec (.outSeqi (.b16 0x0F02)) (ignoring State.reset))).map (fun t => (t.seq.index, t.response)) =
      some (0, some { rdata := none, status := .invalidAccessWidth 0x3C4 .word }) := by decide +kernel

/-- V43, V44: TRUNCATE keeps the side effect, IGNORE has none. -/
theorem test_wide_read :
    (next? (exec (.inSt1Colour .word) (withAttr 1 true))).map (fun t => (t.attr.flip, t.response)) =
      some (false, some { rdata := some (.io (.b16 0)), status := .invalidAccessWidth 0x3DA .word }) ∧
    (next? (exec (.inSt1Colour .word) (ignoring (withAttr 1 true)))).map (fun t => t.attr.flip) = some true := by
  decide +kernel

/-- V47 to V50. -/
theorem test_rebase_legacy :
    State.reset.rebase 0x1FFFF = some 0x1FFFF ∧ (withGr 6 0x04 State.reset).rebase 0xFFFF = some 0xFFFF ∧
    (withGr 6 0x04 State.reset).rebase 0x10000 = none ∧ (withGr 6 0x08 State.reset).rebase 0x10000 = some 0 ∧
    (withGr 6 0x08 State.reset).rebase 0 = none ∧ (withGr 6 0x08 State.reset).rebase 0x18000 = none ∧
    (withGr 6 0x0C State.reset).rebase 0x18000 = some 0 ∧ (withGr 6 0x0C State.reset).rebase 0x100 = none ∧
    (withGr 6 0x0C State.reset).rebase 0x1FFFF = some 0x7FFF := by decide +kernel

/-- V51, V52. -/
theorem test_rebase_other_window :
    State.rebase { State.reset with cfg := { windowBase := 0xB8000, windowLen := 0x8000 } } 0 = none ∧
    State.rebase { withGr 6 0x0C State.reset with cfg := { windowBase := 0xB8000, windowLen := 0x8000 } } 0 = some 0 := by
  decide +kernel

/-- The plane bytes a write decode names, as (plane, offset, byte), and none when it is refused. -/
def tuples? : Except Refusal WriteDecode → Option (List (Plane × Nat × Byte))
  | .ok w => some (w.bytes.map fun b => (b.plane, b.offset, b.value))
  | .error _ => none

/-- L1-4, V55, V57. -/
theorem test_decode_chain4 :
    tuples? ((withSeq 4 0x08 (withSeq 2 0x05 State.reset)).decodeWrite 6 0x77) = some [(2, 6, 0x77)] ∧
    tuples? ((withSeq 4 0x08 (withSeq 2 0x05 State.reset)).decodeWrite 5 0x77) = some [] ∧
    tuples? ((withGr 4 2 (withGr 5 0x10 (withSeq 4 0x08 (withSeq 2 0x0F State.reset)))).decodeWrite 1 9) = some [(1, 1, 9)] := by
  decide +kernel

/-- L1-5, V58 to V61. -/
theorem test_decode_odd_even :
    tuples? ((withGr 4 2 (withGr 5 0x10 (withSeq 2 0x0F State.reset))).decodeWrite 0x10 9) = some [(2, 0x10, 9)] ∧
    tuples? ((withGr 4 2 (withGr 5 0x10 (withSeq 2 0x0F State.reset))).decodeWrite 0x11 9) = some [(3, 0x11, 9)] ∧
    tuples? ((withGr 4 1 (withGr 5 0x11 (withSeq 2 0x0F State.reset))).decodeWrite 0x11 9) = some [(1, 0x11, 9)] ∧
    tuples? ((withGr 5 0x10 (withSeq 2 0x01 State.reset)).decodeWrite 0x11 9) = some [] := by decide +kernel

/-- V62 to V64. -/
theorem test_decode_mode0_bit_mask :
    tuples? (planar.decodeWrite 0x100 0xAA) =
      some [(0, 0x100, 0xAA), (1, 0x100, 0xAA), (2, 0x100, 0xAA), (3, 0x100, 0xAA)] ∧
    tuples? ((withPlane 0 0x40 0xF0 (withGr 8 0x0F (withSeq 2 1 State.reset))).decodeWrite 0x40 0x05) =
      some [(0, 0x40, 0xF5)] := by decide +kernel

/-- V66, BITWISE and PER_PLANE. -/
theorem test_decode_mode0_set_reset :
    tuples? ((withGr 0 0x05 (withGr 1 0x0F planar)).decodeWrite 0x10 0x3C) =
      some [(0, 0x10, 0x35), (1, 0x10, 0x35), (2, 0x10, 0x35), (3, 0x10, 0x35)] ∧
    tuples? (State.decodeWrite { withGr 0 0x05 (withGr 1 0x0F planar) with
        params := { Config.defaultParams with setReset := .perPlane } } 0x10 0x3C) =
      some [(0, 0x10, 0xFF), (1, 0x10, 0x00), (2, 0x10, 0xFF), (3, 0x10, 0x00)] := by decide +kernel

/-- V69 to V71. -/
theorem test_decode_vga_gk :
    tuples? ((under .vgaGk (withGr 5 1 (withLatch #v[1, 2, 3, 4] planar))).decodeWrite 0x200 9) =
      some [(0, 0x200, 1), (1, 0x200, 2), (2, 0x200, 3), (3, 0x200, 4)] ∧
    tuples? ((under .vgaGk (withGr 5 2 planar)).decodeWrite 0x10 0x05) =
      some [(0, 0x10, 0xFF), (1, 0x10, 0), (2, 0x10, 0xFF), (3, 0x10, 0)] ∧
    tuples? ((under .vgaGk (withGr 0 0x0F (withGr 3 4 (withGr 5 3 (withSeq 2 1 planar))))).decodeWrite 0x10 0xF0) =
      some [(0, 0x10, 0x0F)] := by decide +kernel

/-- V68, V72, V81: refused in the map only. -/
theorem test_decode_refused :
    refusal? (exec (.mmioW 0 [1, 2]) (withGr 5 1 planar)) = some .writeModeUnimplemented ∧
    tuples? ((withGr 6 0x0C (withGr 5 1 planar)).decodeWrite 0x100 9) = some [] := by decide +kernel

/-- V54: the in-window byte is written, the other ignored; the status names it. -/
theorem test_mmio_write_straddles_window :
    (next? (exec (.mmioW 0x1FFFF [0x11, 0x22]) planar)).map
      (fun t => (t.planeRead 2 0x1FFFF, t.planeRead 2 0x20000, t.response)) =
        some (0x11, 0, some { rdata := none, status := .outOfRangeAddress 0x20000 }) := by decide +kernel

/-- V80: byte k goes to offset k. -/
theorem test_mmio_write_bytes :
    (next? (exec (.mmioW 0 [1, 2, 3, 4]) planar)).map
      (fun t => [0, 1, 2, 3].map fun o => t.planeRead 1 o) = some [1, 2, 3, 4] := by decide +kernel

/-- V73, V74: planar reads take plane rms mod 4 and load the four latches. -/
theorem test_mmio_read :
    (next? (exec (.mmioR 0x100 1) (withGr 4 0x06 (withPlane 2 0x100 0xAA (withPlane 0 0x100 0x33 State.reset))))).map
      (fun t => (t.response, t.latch)) =
        some (some { rdata := some (.mmio [0xAA]), status := .ok }, #v[0x33, 0, 0xAA, 0]) := by decide +kernel

/-- V76: the latches are unchanged. -/
theorem test_mmio_read_out_of_map :
    (next? (exec (.mmioR 0x100 1) (withGr 6 0x0C (withLatch #v[1, 2, 3, 4] State.reset)))).map
      (fun t => (t.response, t.latch)) = some (some { rdata := some (.mmio [0]), status := .ok }, #v[1, 2, 3, 4]) := by
  decide +kernel

/-- V82, V83. -/
theorem test_attach :
    refusal? (exec (.hostAttach 0xA0000 0x20000 true) State.reset) = some .alreadyAttached ∧
    (next? (exec (.hostAttach 0xA0000 0x20000 false) detached)).map (fun t => (t.attached, t.response)) =
      some (false, some { rdata := none, status := .configurationError }) := by decide +kernel

/-- V85: no state persists. -/
theorem test_attach_resets :
    (next? (exec (.hostAttach 0xB8000 0x8000 true) detached)).map (fun t => (t.attached, t.cfg.windowBase, t.seq.slot 2)) =
      some (true, 0xB8000, 0) := by decide +kernel

/-- V84. -/
theorem test_detach :
    (next? (exec .hostDetach planar)).map (fun t => (t.attached, t.seq.slot 2)) = some (false, 0) ∧
    next? (exec .hostDetach detached) = some (detached.respond none .ok) := by decide +kernel

/-- V46. -/
theorem test_detached_refuses :
    [exec (.inSeqi .byte) detached, exec (.mmioW 0 [1]) detached, exec .hostDiag detached].map refusal? =
      [some .notAttached, some .notAttached, some .notAttached] := by decide +kernel

/-- The word placed by withFetchWord is the next request. -/
theorem test_step_runs_fetched_word :
    (next? (step (State.reset.withFetchWord 32 0x200003C0))).map (fun t => (t.attr.flip, t.requests)) = some (true, []) := by
  decide +kernel

/-! ### States and operands that meet the hypotheses of the statements

One theorem per statement that has hypotheses, with a case for each clause of it, at the edges of its ranges. -/

/-- `s` in odd/even mode. -/
def oddEvenMode (s : State) : State := withGr 5 0x10 s

/-- `s` in chain-4 mode. -/
def chain4Mode (s : State) : State := withSeq 4 0x08 s

theorem witness_DecodeEncodeRoundTrip :
    WellFormed (.outNone 0xFFFF (.b32 0xFFFFFFFF)) = true ∧ WellFormed (.inNone 0x3C6 .byte) = true ∧
    WellFormed (.mmioR 0x1FFFFFFF 0) = true := by decide

theorem witness_ValidWordSelectsOneOperation :
    ¬ ReservedForm 0x0002FFFF ∧ ¬ ReservedForm 0x7FFFFFFF ∧ ¬ ReservedForm 0x80000003 := by
  unfold ReservedForm; decide

theorem witness_ReservedWordsAreRefused :
    (State.reset.enqueue [{ word := 0xC0000000 }]).requests = { req := { word := 0xC0000000 } } :: [] ∧
    ReservedForm 0xC0000000 ∧ ReservedForm 0x000703C4 ∧ ReservedForm 0x80000004 := by
  unfold ReservedForm; decide

theorem witness_StepRunsDecodedRequest :
    (State.reset.enqueue [reqOut 0x3C4 2, reqIn 0x3C4]).requests =
      { req := reqOut 0x3C4 2 } :: [{ req := reqIn 0x3C4 }] ∧
    decode (reqOut 0x3C4 2) = .ok (.outSeqi (.b8 2)) := ⟨rfl, rfl⟩

theorem witness_IdleWaitsAndOverlapIsRefused :
    State.reset.requests = [] ∧
    State.requests { State.reset with requests := [{ req := reqIn 0x3C4, overlapped := true }] } =
      { req := reqIn 0x3C4, overlapped := true } :: [] ∧
    decode (reqIn 0x3C4) = .ok (.inSeqi .byte) := ⟨rfl, rfl, rfl⟩

theorem witness_DetachedBlockRefusesRequests :
    detached.attached = false ∧ (Instr.mmioW 0 []).isGuest = true ∧ (Instr.inCrtiMono .dword).isGuest = true :=
  ⟨rfl, rfl, rfl⟩

theorem witness_WideAccessTruncates :
    Instr.ioAccess (.outAttr (.b16 0x1234)) = some (0x3C0, .word, true) ∧
    Instr.ioAccess (.inDacd .dword) = some (0x3C9, .dword, false) ∧
    State.reset.attached = true ∧ State.reset.params.wideIo = .truncate := ⟨rfl, rfl, rfl, rfl⟩

theorem witness_WideAccessIgnored :
    Instr.ioAccess (.outAttr (.b16 0x1234)) = some (0x3C0, .word, true) ∧
    Instr.ioAccess (.inDacd .dword) = some (0x3C9, .dword, false) ∧
    (ignoring State.reset).attached = true ∧ (ignoring State.reset).params.wideIo = .ignore := ⟨rfl, rfl, rfl, rfl⟩

theorem witness_DispatchNeverFails :
    Instr.ioAccess (.outEna (.b8 0)) = some (0x3C3, .byte, true) ∧ State.reset.attached = true := ⟨rfl, rfl⟩

/-- What every statement about an I/O port assumes: an attached block, and an access of one byte under either policy or of
any size under TRUNCATE. -/
abbrev PortHypotheses : Prop :=
  State.reset.attached = true ∧ (ignoring State.reset).attached = true ∧ IoRuns (ignoring State.reset) .byte ∧
  IoRuns State.reset .byte ∧ IoRuns State.reset .word ∧ IoRuns State.reset (IoData.b32 0xFFFFFFFF).size

theorem portHypotheses : PortHypotheses := ⟨rfl, rfl, .inl rfl, .inl rfl, .inr rfl, .inr rfl⟩

theorem witness_UnmappedPorts :
    (0x3C6 : Port) ∉ mappedPorts ∧ (0xFFFF : Port) ∉ mappedPorts ∧ PortHypotheses :=
  ⟨by decide, by decide, portHypotheses⟩

theorem witness_CrtIndexPorts : PortHypotheses := portHypotheses

theorem witness_CrtDataPorts : PortHypotheses := portHypotheses

theorem witness_DacIndexPorts : PortHypotheses := portHypotheses

theorem witness_MiscOutputPorts : PortHypotheses := portHypotheses

theorem witness_FeatureAndStatusPorts : PortHypotheses := portHypotheses

theorem witness_EnablePort : PortHypotheses := portHypotheses

/-- A Sequencer data write with index `i` selected completes. -/
abbrev SeqDataWrites (i : Byte) : Prop :=
  ∃ s t : State, s.attached = true ∧ s.seq.index = i ∧ exec (.outSeqd (.b8 0xFF)) s = .next t

theorem witness_SequencerPorts :
    PortHypotheses ∧ SeqDataWrites 2 ∧ SeqDataWrites 4 ∧ SeqDataWrites 0 ∧ SeqDataWrites 0xFF :=
  ⟨portHypotheses, ⟨{ State.reset with seq := { State.reset.seq with index := 2 } }, _, rfl, rfl, rfl⟩,
    ⟨{ State.reset with seq := { State.reset.seq with index := 4 } }, _, rfl, rfl, rfl⟩, ⟨State.reset, _, rfl, rfl, rfl⟩,
    ⟨{ State.reset with seq := { State.reset.seq with index := 0xFF } }, _, rfl, rfl, rfl⟩⟩

/-- A Graphics data write with index `i` selected completes, for every `i`. -/
theorem witness_GraphicsPorts :
    PortHypotheses ∧
    ∀ i, ∃ s t : State, s.attached = true ∧ s.gr.index = i ∧ exec (.outGrd (.b8 0xFF)) s = .next t :=
  ⟨portHypotheses, fun i => ⟨{ State.reset with gr := { State.reset.gr with index := i } }, _, rfl, rfl, rfl⟩⟩

theorem witness_DataWriteReachesOneSlot :
    (∃ t, exec (.outCrtdMono (.b8 1)) State.reset = .next t) ∧
    (∃ t, exec (.outCrtdColour (.b8 1)) State.reset = .next t) ∧
    (∃ t, exec (.outSeqd (.b8 1)) State.reset = .next t) ∧ (∃ t, exec (.outGrd (.b32 1)) State.reset = .next t) ∧
    (∃ t, exec (.outCrtiMono (.b8 1)) State.reset = .next t) ∧
    (∃ t, exec (.outCrtiColour (.b8 1)) State.reset = .next t) ∧
    (∃ t, exec (.outSeqi (.b8 1)) State.reset = .next t) ∧ ∃ t, exec (.outGri (.b8 1)) State.reset = .next t :=
  ⟨⟨_, rfl⟩, ⟨_, rfl⟩, ⟨_, rfl⟩, ⟨_, rfl⟩, ⟨_, rfl⟩, ⟨_, rfl⟩, ⟨_, rfl⟩, ⟨_, rfl⟩⟩

theorem witness_IndexReadBack :
    State.reset.attached = true ∧ State.reset.attr.flip = false := ⟨rfl, rfl⟩

theorem witness_DataReadBack :
    State.reset.attached = true ∧ (0x3CE : Port) ∈ ([0x3B4, 0x3D4, 0x3C4, 0x3CE] : List Port) := by decide

theorem witness_AliasPortsAgree :
    State.reset.attached = true := rfl

theorem witness_AttributeWritePort :
    (withAttr 0x3F true).attached = true ∧ (withAttr 0x3F true).attr.flip = true ∧
    (0x1F : Fin 256).val = (withAttr 0x3F true).attr.index.toNat % 0x20 ∧
    (0 : Fin 256).val = (withAttr 0x20 true).attr.index.toNat % 0x20 ∧
    (withAttr 0 false).attr.flip = false ∧ (0x0F#5).toNat ≤ 0x0F ∧ 0x15 ≤ (0x15#5).toNat := by decide +kernel

theorem witness_AttributeReadPorts :
    (withAttr 0x3F true).attr.flip = true ∧ (withAttr 0x3F false).attr.flip = false ∧
    (0x1F : Fin 256).val = (withAttr 0x3F true).attr.index.toNat % 0x20 := by decide +kernel

theorem witness_FlipFlopChanges :
    (∃ t, exec (.outAttr (.b8 0)) State.reset = .next t) ∧ (∃ t, exec (.inSt1Mono .byte) State.reset = .next t) ∧
    (∃ t, exec (.inSt1Colour .dword) State.reset = .next t) ∧
    (∃ t, exec (.outFeatColour (.b8 0)) State.reset = .next t) ∧
    (Instr.outFeatColour (.b8 0)).isGuest = true ∧ ∃ t, exec .hostDiag State.reset = .next t :=
  ⟨⟨_, rfl⟩, ⟨_, rfl⟩, ⟨_, rfl⟩, ⟨_, rfl⟩, rfl, ⟨_, rfl⟩⟩

theorem witness_StatusReadResynchronises :
    (withAttr 5 true).attached = true := rfl

theorem witness_DacDataWrite :
    (withDac 0 0xFF 2 #v[1, 2, 3]).dac.subIndex = 2 ∧ (withDac 0 0xFF 1 #v[1, 2, 3]).dac.subIndex.val < 2 ∧
    State.reset.dac.subIndex.val < 2 ∧ PortHypotheses := ⟨rfl, by decide, by decide, portHypotheses⟩

theorem witness_DacDataRead :
    (withDac 0xFF 0 2 #v[1, 2, 3]).dac.subIndex = 2 ∧
    (0xFF : Fin 256).val = (withDac 0xFF 0 2 #v[1, 2, 3]).dac.readIndex.toNat ∧
    (withDac 0 0xFF 1 #v[1, 2, 3]).dac.subIndex.val < 2 ∧ DacInv (withDac 0xFF 0 2 #v[1, 2, 3]).dac ∧ PortHypotheses :=
  ⟨rfl, by decide, by decide, by decide +kernel, portHypotheses⟩

theorem witness_DacRoundTrip :
    State.reset.attached = true := rfl

theorem witness_DacSharedSubIndex :
    (∃ t, exec (.inDacd .byte) (withDac 0 0 2 #v[1, 2, 3]) = .next t) ∧
    (∃ t, exec (.outDacd (.b16 7)) (withDac 0 0 1 #v[1, 2, 3]) = .next t) ∧
    (withDac 0xFF 7 0 #v[1, 2, 3]).dac.subIndex = 0 ∧
    (0xFF : Fin 256).val = (withDac 0xFF 7 0 #v[1, 2, 3]).dac.readIndex.toNat := ⟨⟨_, rfl⟩, ⟨_, rfl⟩, rfl, by decide⟩

theorem witness_PaletteChangesOnThirdComponent :
    (next? (exec (.outDacd (.b8 7)) (withDac 0 0xFF 2 #v[1, 2, 3]))).map
      (fun t => decide (t.dac.palette[(0xFF : Fin 256)] ≠ State.reset.dac.palette[(0xFF : Fin 256)])) = some true := by
  decide +kernel

theorem witness_StatusBytesNeverWritten :
    (∃ t, exec (.outMisc (.b8 0xFF)) State.reset = .next t) ∧ State.reset.misc.status0 = 0 ∧
    State.reset.misc.status1 = 0 ∧ ∃ t, exec .hostDetach State.reset = .next t := ⟨⟨_, rfl⟩, rfl, rfl, ⟨_, rfl⟩⟩

theorem witness_RebaseRule :
    State.reset.cfg.windowBase = 0xA0000 ∧ State.reset.cfg.windowLen = 0x20000 ∧ State.reset.memoryMapMode = 0 ∧
    (withGr 6 4 State.reset).memoryMapMode = 1 ∧ (0x1FFFF : Nat) < 0x20000 ∧ (0xFFFF : Nat) < 0x10000 := by
  decide +kernel

/-- Byte 0 of a request at the last offset of the legacy window, and at the first. -/
theorem reaches_edges : Reaches State.reset 0x1FFFF 0 0x1FFFF ∧ Reaches State.reset 0 0 0 := by decide +kernel

theorem witness_RawModesStoreTheByte :
    Reaches (chain4Mode planar) 0x1FFFF 0 0x1FFFF ∧ (chain4Mode planar).attached = true ∧
    PlanesInv (chain4Mode planar).planes ∧ (chain4Mode planar).chain4 = true ∧ (3 : Plane).val = 0x1FFFF % 4 ∧
    Reaches (oddEvenMode (withGr 4 2 planar)) 0 0 0 ∧ (oddEvenMode (withGr 4 2 planar)).chain4 = false ∧
    (oddEvenMode (withGr 4 2 planar)).oddEven = true ∧
    (2 : Plane).val = 2 * ((oddEvenMode (withGr 4 2 planar)).readMapSelect.toNat / 2 % 2) + 0 % 2 := by decide +kernel

theorem witness_PlanarMode0Write :
    Reaches planar 0x1FFFF 0 0x1FFFF ∧ planar.attached = true ∧ PlanesInv planar.planes ∧ planar.chain4 = false ∧
    planar.oddEven = false ∧ planar.writeMode = 0 ∧ planar.params.setReset = .bitwise ∧
    State.writeMode { planar with params := { planar.params with setReset := .perPlane } } = 0 := by decide +kernel

theorem witness_PlanarModes123 :
    PlanarMode123 (withGr 5 1 planar) ∧ (withGr 5 1 planar).attached = true ∧
    (withGr 5 1 planar).params.writeMode123 = .refuse ∧ Reaches (withGr 5 1 planar) 0x1FFFE 1 0x1FFFF ∧
    PlanesInv (withGr 5 3 planar).planes ∧ PlanarMode123 (under .draw (withGr 5 3 planar)) ∧
    (under .draw (withGr 5 3 planar)).params.writeMode123 = .draw ∧
    Reaches (under .draw (withGr 5 3 planar)) 0x1FFFF 0 0x1FFFF ∧
    (3 : Plane).val = (withGr 4 0xFF (withGr 5 2 planar)).readMapSelect.toNat % 4 := by decide +kernel

theorem witness_VgaGkPipeline :
    (under .vgaGk (withGr 5 1 planar)).params.writeMode123 = .vgaGk ∧
    PlanarMode123 (under .vgaGk (withGr 5 1 planar)) ∧
    PlanarMode123 (under .vgaGk (withGr 5 2 planar)) ∧ PlanarMode123 (under .vgaGk (withGr 5 3 planar)) ∧
    Reaches (under .vgaGk (withGr 5 3 planar)) 0x1FFFF 0 0x1FFFF ∧ PlanesInv (under .vgaGk (withGr 5 3 planar)).planes := by
  decide +kernel

theorem witness_WriteDecodeAtMostFour :
    tuples? (planar.decodeWrite 0x1FFFF 7) = some [(0, 0x1FFFF, 7), (1, 0x1FFFF, 7), (2, 0x1FFFF, 7), (3, 0x1FFFF, 7)] ∧
    tuples? ((withGr 6 0x0C planar).decodeWrite 0x17FFF 7) = some [] ∧ PlanesInv planar.planes := by decide +kernel

theorem witness_ReadDecode :
    (withGr 6 0x0C State.reset).rebase 0x17FFF = none ∧ State.reset.rebase 0x1FFFF = some 0x1FFFF ∧
    (chain4Mode planar).chain4 = true ∧ tuples? ((chain4Mode planar).decodeWrite 0x1FFFF 7) = some [(3, 0x1FFFF, 7)] ∧
    (oddEvenMode planar).oddEven = true ∧ tuples? ((oddEvenMode planar).decodeWrite 0 7) = some [(0, 0, 7)] := by
  decide +kernel

/-- `State.reset` with every register bit set that the decoder does not read. -/
def decoderIgnores : State :=
  { withGr 2 0xFF (withGr 3 0xFF (withGr 4 0xFC (withGr 5 0xEC (withGr 6 0xF3 (withGr 7 0xFF (withGr 9 0xFF
      (withSeq 2 0xF0 (withSeq 4 0xF7 (withSeq 0 0xFF (withAttr 0x10 true)))))))))) with latch := #v[1, 2, 3, 4], draws := 7 }

/-- `State.reset` under VGA_GK and under DRAW, with every register bit set that the decoder does not read there. -/
abbrev decoderIgnoresUnder (p : Config.WriteMode123Policy) : State :=
  if p = .vgaGk then under p { withGr 3 0xE0 decoderIgnores with latch := State.reset.latch }
  else under p { decoderIgnores with draws := 0 }

theorem witness_DecoderReadsOnlyItsInputs_policies :
    (∀ (q : Plane) (o : Nat),
      (decoderIgnoresUnder .vgaGk).planeRead q o = (under .vgaGk State.reset).planeRead q o ∧
      (decoderIgnoresUnder .draw).planeRead q o = (under .draw State.reset).planeRead q o) ∧
    (under .vgaGk State.reset).params.writeMode123 = .vgaGk ∧
    (decoderIgnoresUnder .vgaGk).params = (under .vgaGk State.reset).params ∧
    (decoderIgnoresUnder .vgaGk).cfg = (under .vgaGk State.reset).cfg ∧
    (decoderIgnoresUnder .vgaGk).latch = (under .vgaGk State.reset).latch ∧
    (decoderIgnoresUnder .vgaGk).gr.slot 3 &&& 0x1F = (under .vgaGk State.reset).gr.slot 3 &&& 0x1F ∧
    (under .draw State.reset).params.writeMode123 = .draw ∧
    (decoderIgnoresUnder .draw).params = (under .draw State.reset).params ∧
    (decoderIgnoresUnder .draw).cfg = (under .draw State.reset).cfg ∧
    (decoderIgnoresUnder .draw).draws = (under .draw State.reset).draws ∧
    ∀ p ∈ [Config.WriteMode123Policy.vgaGk, .draw],
      (decoderIgnoresUnder p).seq.slot 2 &&& 0x0F = (under p State.reset).seq.slot 2 &&& 0x0F ∧
      (decoderIgnoresUnder p).seq.slot 4 &&& 0x08 = (under p State.reset).seq.slot 4 &&& 0x08 ∧
      (decoderIgnoresUnder p).gr.slot 0 = (under p State.reset).gr.slot 0 ∧
      (decoderIgnoresUnder p).gr.slot 1 = (under p State.reset).gr.slot 1 ∧
      (decoderIgnoresUnder p).gr.slot 4 &&& 0x03 = (under p State.reset).gr.slot 4 &&& 0x03 ∧
      (decoderIgnoresUnder p).gr.slot 5 &&& 0x13 = (under p State.reset).gr.slot 5 &&& 0x13 ∧
      (decoderIgnoresUnder p).gr.slot 6 &&& 0x0C = (under p State.reset).gr.slot 6 &&& 0x0C ∧
      (decoderIgnoresUnder p).gr.slot 8 = (under p State.reset).gr.slot 8 :=
  ⟨fun _ _ => ⟨rfl, rfl⟩, by decide +kernel⟩

theorem witness_DecoderReadsOnlyItsInputs :
    (∀ (q : Plane) (o : Nat), decoderIgnores.planeRead q o = State.reset.planeRead q o) ∧
    decoderIgnores.cfg = State.reset.cfg ∧ decoderIgnores.params = State.reset.params ∧
    State.reset.params.writeMode123 = .refuse ∧
    decoderIgnores.seq.slot 2 &&& 0x0F = State.reset.seq.slot 2 &&& 0x0F ∧
    decoderIgnores.seq.slot 4 &&& 0x08 = State.reset.seq.slot 4 &&& 0x08 ∧
    decoderIgnores.gr.slot 0 = State.reset.gr.slot 0 ∧ decoderIgnores.gr.slot 1 = State.reset.gr.slot 1 ∧
    decoderIgnores.gr.slot 4 &&& 0x03 = State.reset.gr.slot 4 &&& 0x03 ∧
    decoderIgnores.gr.slot 5 &&& 0x13 = State.reset.gr.slot 5 &&& 0x13 ∧
    decoderIgnores.gr.slot 6 &&& 0x0C = State.reset.gr.slot 6 &&& 0x0C ∧
    decoderIgnores.gr.slot 8 = State.reset.gr.slot 8 :=
  ⟨fun _ _ => rfl, by decide +kernel⟩

theorem witness_MmioReadRequest :
    detached.attached = false ∧ State.reset.attached = true ∧ State.reset.decodeRead 0x1FFFF = some (0, 0x1FFFF) ∧
    Reaches State.reset 0x1FFFF 0 0x1FFFF ∧ ¬ Reaches State.reset 0x1FFFF 1 0x20000 := by decide +kernel

theorem witness_MmioWriteRequest :
    planar.attached = true ∧ ¬ PlanarMode123 planar ∧
    (under .draw (withGr 5 1 planar)).params.writeMode123 ≠ .refuse ∧
    (withGr 6 0x0C (withGr 5 1 planar)).rebase 0x17FFF = none ∧ planar.mapMask.getLsbD 3 = true ∧
    State.reset.mapMask.getLsbD 3 = false := by decide +kernel

theorem witness_MmioWriteIsByteSerial :
    refusal? (exec (.mmioW 0 [1]) (withGr 5 1 planar)) = some .writeModeUnimplemented ∧
    (next? (exec (.mmioW 0x1FFFE [1]) planar)).isSome = true ∧
    (next? (exec (.mmioW 0x1FFFF [2]) planar)).isSome = true ∧ (0x1FFFFFFE : Offset).toNat + 1 < 2 ^ 29 ∧
    (next? (exec (.mmioW 0x17FFF [1]) (withGr 6 0x0C (withGr 5 1 planar)))).isSome = true ∧
    refusal? (exec (.mmioW 0x18000 [1]) (withGr 6 0x0C (withGr 5 1 planar))) = some .writeModeUnimplemented := by
  decide +kernel

theorem witness_OutOfWindowBytes :
    State.reset.cfg.windowLen.toNat ≤ (0x20000 : Offset).toNat ∧ State.reset.attached = true ∧
    (0x1FFFF : Offset).toNat + [(7 : Byte)].length = planar.cfg.windowLen.toNat ∧
    (next? (exec (.mmioW 0x1FFFF [7]) planar)).isSome = true ∧
    (next? (exec (.mmioR 0x1FFFF 1) planar)).isSome = true := by decide +kernel

theorem witness_OutOfMapBytes :
    (withGr 6 0x0C State.reset).rebase 0x17FFE = none ∧ (withGr 6 0x0C State.reset).rebase 0x17FFF = none ∧
    (withGr 6 0x0C State.reset).attached = true ∧
    (0x17FFE : Offset).toNat + 2 ≤ (withGr 6 0x0C State.reset).cfg.windowLen.toNat ∧
    (withGr 6 0x04 State.reset).rebase 0x10000 = none := by decide +kernel

theorem witness_PlaneSizeBound :
    State.reset.params.planeSize ≤ 0x1000000 ∧ State.reset.params.planeSize = 0x1000000 ∧
    State.reset.cfg.windowLen.toNat ≤ State.reset.params.planeSize ∧ State.reset.rebase 0x1FFFF = some 0x1FFFF := by
  decide +kernel

theorem witness_ZeroLengthMmio :
    State.reset.attached = true := rfl

theorem witness_MmioWriteIdempotent :
    PlanesInv planar.planes ∧ ¬ PlanarMode123 planar ∧ (next? (exec (.mmioW 0x1FFFF [1, 2]) planar)).isSome = true ∧
    (under .vgaGk (withGr 5 1 planar)).params.writeMode123 ≠ .draw ∧ PlanarMode123 (under .vgaGk (withGr 5 1 planar)) ∧
    (next? (exec (.mmioW 0 [1, 2]) (under .vgaGk (withGr 5 1 planar)))).isSome = true := by decide +kernel

theorem witness_WriteSeenByNextRead :
    planar.attached = true ∧ PlanesInv planar.planes ∧ (0x1FFFF : Offset).toNat < planar.cfg.windowLen.toNat ∧
    planar.decodeRead 0x1FFFF = some (0, 0x1FFFF) ∧ planar.mapMask.getLsbD 0 = true ∧
    0x1FFFF < planar.params.planeSize ∧ planar.writeMode = 0 ∧ planar.bitMask = 0xFF ∧ planar.enableSetReset = 0 ∧
    (chain4Mode planar).decodeRead 0x1FFFF = some (3, 0x1FFFF) ∧ (chain4Mode planar).chain4 = true ∧
    (oddEvenMode planar).decodeRead 1 = some (1, 1) ∧ (oddEvenMode planar).oddEven = true := by decide +kernel

/-- The clauses of WriteSeenByNextRead about any write: a write of several bytes and a read of another offset of them; a
masked byte of plane 3, read after its plane is selected; a byte under VGA_GK; and a free value under DRAW. -/
theorem witness_WriteSeenByNextRead_any :
    (next? (exec (.mmioW 0x1FFFE [1, 2, 3]) planar)).isSome = true ∧ planar.decodeRead 0x1FFFF = some (0, 0x1FFFF) ∧
    tuples? ((withGr 8 0x0F (withSeq 2 8 State.reset)).decodeWrite 0x1FFFF 0xFF) = some [(3, 0x1FFFF, 0x0F)] ∧
    PlanesInv (withGr 8 0x0F (withSeq 2 8 State.reset)).planes ∧
    (next? (exec (.mmioW 0x1FFFF [0xFF]) (withGr 8 0x0F (withSeq 2 8 State.reset)))).map
      (fun t => (withGr 4 3 t).decodeRead 0x1FFFF) = some (some (3, 0x1FFFF)) ∧
    tuples? ((under .vgaGk (withGr 5 2 (withSeq 2 2 planar))).decodeWrite 0 2) = some [(1, 0, 0xFF)] ∧
    (next? (exec (.mmioW 0 [2]) (under .draw (withGr 5 1 planar)))).isSome = true ∧
    (under .draw (withGr 5 1 planar)).decodeRead 0 = some (0, 0) := by decide +kernel

theorem witness_AttachResetsEverything :
    detached.attached = false ∧ State.reset.attached = true := ⟨rfl, rfl⟩

theorem witness_FailedAttach :
    detached.attached = false ∧ (Instr.mmioR 0 0).isGuest = true := ⟨rfl, rfl⟩

theorem witness_DetachAlwaysSucceeds :
    detached.attached = false := rfl

theorem witness_NothingSurvivesDetach :
    planar.attached = true ∧ State.reset.attached = true ∧ planar.params = State.reset.params := ⟨rfl, rfl, rfl⟩

theorem witness_DiagReadsMarker :
    detached.attached = false ∧ State.reset.attached = true := ⟨rfl, rfl⟩

theorem witness_DacStateHasNoFurtherEffect :
    State.reset.attached = true ∧ (∃ t, exec (.outDacri (.b8 1)) State.reset = .next t) ∧
    ∃ t, exec .hostDetach State.reset = .next t := ⟨rfl, ⟨_, rfl⟩, ⟨_, rfl⟩⟩

theorem witness_GuestKeepsConfiguration :
    (Instr.mmioW 0 [7]).isGuest = true ∧ ∃ t, exec (.mmioW 0 [7]) State.reset = .next t :=
  ⟨rfl, next_of (by decide +kernel)⟩

theorem witness_EveryStepKeepsTheInvariant :
    (∃ s, Inv s ∧ s = State.reset.enqueue [reqIn 0x3C4]) ∧
    ∃ t, step (State.reset.enqueue [reqIn 0x3C4]) = .next t :=
  ⟨⟨_, ⟨by decide +kernel, by decide +kernel, by decide +kernel, by decide +kernel, by decide +kernel,
    fun h => Bool.noConfusion h⟩, rfl⟩, ⟨_, rfl⟩⟩

end Sys2Proof.Tests
end

section
/-! What a detach and a new attach keep (O54), and what the DAC state marker reaches (O56). -/

namespace Sys2Proof.Proofs

open Sys2Proof.Machine Sys2Proof.Laws

/-! ### Detach, then attach -/

theorem exec_hostDetach_attached {s : State} (ha : s.attached = true) :
    exec .hostDetach s = .next (s.discard.respond none .ok) :=
  if_pos ha

/-- What HOST.ATTACH answers while detached (R260, R261): the host's draw decides. -/
theorem execHostAttach_detached {s : State} (b l : BitVec 32) (ok : Bool) (ha : s.attached = false) :
    execHostAttach b l ok s =
      .next (if ok then (s.attachReset b l).respond none .ok else s.respond none .configurationError) := by
  unfold execHostAttach
  rw [if_neg (by simp [ha])]
  cases ok <;> rfl

/-- A successful attach overwrites every field but the parameters, the pending requests and the counter: what it leaves
of two states with the same parameters differs in the last two alone (R54, R330). -/
theorem attachReset_respond_eq_of_params {s s' : State} (hp : s.params = s'.params) (b l : BitVec 32)
    (d : Option ReadData) (st : Status) :
    (s'.attachReset b l).respond d st =
      { (s.attachReset b l).respond d st with requests := s'.requests, draws := s'.draws } := by
  unfold State.attachReset State.respond
  rw [hp]

/-- Settles O54: the attach rewrites whatever the detach left, but for the parameters, the queue and the counter, and the
detach changes none of these three. -/
theorem nothingSurvivesDetach : Obligations.NothingSurvivesDetach := by
  intro s s' base length ha ha' hp
  exact ⟨_, _, _, _, exec_hostDetach_attached ha, execHostAttach_detached base length true rfl,
    exec_hostDetach_attached ha', execHostAttach_detached base length true rfl,
    attachReset_respond_eq_of_params (s := s.discard.respond none .ok) (s' := s'.discard.respond none .ok) hp
      base length none .ok⟩

/-! ### The state with another marker -/

/-- The state with `x` in the DAC state marker and nothing else changed. -/
def withMarker (s : State) (x : Byte) : State := { s with dac := { s.dac with dacState := x } }

@[simp] theorem withMarker_attached (s : State) (x : Byte) : (withMarker s x).attached = s.attached := rfl
@[simp] theorem withMarker_cfg (s : State) (x : Byte) : (withMarker s x).cfg = s.cfg := rfl

/-- A port's read does the same whatever the marker holds, but for the marker itself. -/
def ReadIgnoresMarker (op : State → Byte × State) : Prop :=
  ∀ s x, ∃ y, op (withMarker s x) = ((op s).1, withMarker (op s).2 y)

/-- A port's write does the same whatever the marker holds, but for the marker itself. -/
def WriteIgnoresMarker (op : Byte → State → State) : Prop :=
  ∀ v s x, ∃ y, op v (withMarker s x) = withMarker (op v s) y

/-- A completing request does the same, and responds the same, whatever the marker holds, but for the marker itself. -/
def IgnoresMarker (f : State → Result) : Prop :=
  ∀ s t x, f s = .next t → ∃ y, f (withMarker s x) = .next (withMarker t y)

/-! ### I/O requests -/

/-- The I/O procedure reads the lifecycle and the policy alone, so a read ignores the marker when its operation does. -/
theorem ioRead_ignoresMarker (port : Port) {op : State → Byte × State} (hop : ReadIgnoresMarker op) (size : IoSize) :
    IgnoresMarker (ioRead port op size) := by
  intro s t x h
  obtain ⟨ha, ⟨hr, rfl⟩ | ⟨hr, rfl⟩⟩ := ioRead_cases h
  · obtain ⟨y, hy⟩ := hop s x
    refine ⟨y, (ioRead_runs port op size (withMarker s x) ha hr).trans ?_⟩
    rw [hy]
    rfl
  · exact ⟨x, ioRead_ignored port op size (withMarker s x) ha hr⟩

/-- A write ignores the marker when its operation does. -/
theorem ioWrite_ignoresMarker (port : Port) {op : Byte → State → State} (hop : WriteIgnoresMarker op) (d : IoData) :
    IgnoresMarker (ioWrite port op d) := by
  intro s t x h
  obtain ⟨ha, ⟨hr, rfl⟩ | ⟨hr, rfl⟩⟩ := ioWrite_cases h
  · obtain ⟨y, hy⟩ := hop (dataByte d) s x
    refine ⟨y, (ioWrite_runs port op d (withMarker s x) ha hr).trans ?_⟩
    rw [hy]
    rfl
  · exact ⟨x, ioWrite_ignored port op d (withMarker s x) ha hr⟩

/-- A component read moves the cursors and neither reads nor writes the marker (R191). -/
theorem afterRead_dacState (d : DacPalette) (x : Byte) :
    DacPalette.afterRead { d with dacState := x } = { d.afterRead with dacState := x } := by
  rw [afterRead_eq, afterRead_eq]

/-- Neither storing a component nor committing the triplet reads or writes the marker (R190). -/
theorem writeComponent_dacState (d : DacPalette) (x v : Byte) :
    DacPalette.writeComponent { d with dacState := x } v = { d.writeComponent v with dacState := x } := by
  by_cases h : d.subIndex = 2
  · rw [writeComponent_commit d v h]
    exact writeComponent_commit { d with dacState := x } v h
  · rw [writeComponent_partial d v h]
    exact writeComponent_partial { d with dacState := x } v h

theorem opInDacd_ignoresMarker : ReadIgnoresMarker opInDacd := fun s x =>
  ⟨x, congrArg (fun d => (s.dac.component, { s with dac := d })) (afterRead_dacState s.dac x)⟩

theorem opOutDacd_ignoresMarker : WriteIgnoresMarker opOutDacd := fun v s x =>
  ⟨x, congrArg (fun d => { s with dac := d }) (writeComponent_dacState s.dac x v)⟩

theorem opOutAttr_ignoresMarker : WriteIgnoresMarker opOutAttr := by
  intro v s x
  refine ⟨x, ?_⟩
  cases h : s.attr.flip <;> simp only [opOutAttr, withMarker, h] <;> rfl

theorem opOutDacri_ignoresMarker : WriteIgnoresMarker opOutDacri := fun _ _ _ => ⟨dacStateRead, rfl⟩

theorem opOutDacwi_ignoresMarker : WriteIgnoresMarker opOutDacwi := fun _ _ _ => ⟨dacStateWrite, rfl⟩

/-! ### MMIO requests -/

theorem decodeWrite_withMarker (s : State) (x : Byte) (a : Nat) (v : Byte) :
    (withMarker s x).decodeWrite a v = s.decodeWrite a v := rfl

theorem planeWrite_withMarker (s : State) (x : Byte) (p : Plane) (o : Nat) (v : Byte) :
    (withMarker s x).planeWrite p o v = withMarker (s.planeWrite p o v) x := by
  unfold State.planeWrite withMarker
  split <;> rfl

theorem commitBytes_withMarker (bs : List PlaneByte) (s : State) (x : Byte) :
    (withMarker s x).commitBytes bs = withMarker (s.commitBytes bs) x := by
  induction bs generalizing s with
  | nil => rfl
  | cons b bs ih =>
    rw [State.commitBytes, planeWrite_withMarker, ih, State.commitBytes]

theorem mmioByteWrite_withMarker {s t : State} {a : Nat} {v : Byte} (h : s.mmioByteWrite a v = .ok t) (x : Byte) :
    (withMarker s x).mmioByteWrite a v = .ok (withMarker t x) := by
  obtain ⟨w, hd, rfl⟩ := mmioByteWrite_cases h
  unfold State.mmioByteWrite
  rw [decodeWrite_withMarker, hd]
  simp only [commitBytes_withMarker]
  rfl

theorem mmioWriteBytes_withMarker {bs : List Byte} {s t : State} {a : Nat} {first : Option Nat}
    (h : s.mmioWriteBytes a bs = .ok (t, first)) (x : Byte) :
    (withMarker s x).mmioWriteBytes a bs = .ok (withMarker t x, first) := by
  induction bs generalizing s t a first with
  | nil => cases h; rfl
  | cons v vs ih =>
    unfold State.mmioWriteBytes at h ⊢
    rw [withMarker_cfg]
    split at h
    · next hout =>
      rw [if_pos hout]
      split at h
      · cases h
      · next hr => cases h; rw [ih hr]
    · next hin =>
      rw [if_neg hin]
      split at h
      · cases h
      · next hb => rw [mmioByteWrite_withMarker hb]; exact ih h

theorem execMmioW_ignoresMarker (off : Offset) (bs : List Byte) : IgnoresMarker (execMmioW off bs) := by
  intro s u x h
  obtain ⟨ha, t, first, hr, -, rfl⟩ := execMmioW_cases h
  refine ⟨x, ?_⟩
  unfold execMmioW
  rw [withMarker_attached, if_pos ha, mmioWriteBytes_withMarker hr]
  rfl

theorem decodeRead_withMarker (s : State) (x : Byte) (a : Nat) :
    (withMarker s x).decodeRead a = s.decodeRead a := rfl

theorem mmioByteRead_withMarker (s : State) (x : Byte) (a : Nat) :
    (withMarker s x).mmioByteRead a = ((s.mmioByteRead a).1, withMarker (s.mmioByteRead a).2 x) := by
  unfold State.mmioByteRead
  rw [decodeRead_withMarker]
  cases s.decodeRead a <;> rfl

theorem mmioReadBytes_withMarker (n : Nat) (s : State) (x : Byte) (a : Nat) :
    (withMarker s x).mmioReadBytes a n =
      ((s.mmioReadBytes a n).1, (s.mmioReadBytes a n).2.1, withMarker (s.mmioReadBytes a n).2.2 x) := by
  induction n generalizing s a with
  | zero => rfl
  | succ n ih =>
    unfold State.mmioReadBytes
    rw [withMarker_cfg]
    split
    · simp only [ih]
    · simp only [mmioByteRead_withMarker, ih]

theorem execMmioR_ignoresMarker (off : Offset) (len : Nat) : IgnoresMarker (execMmioR off len) := by
  intro s u x h
  have ha : s.attached = true := (execMmioR_cases h).1
  refine ⟨x, ?_⟩
  unfold execMmioR at h ⊢
  rw [if_pos ha] at h
  cases h
  rw [withMarker_attached, if_pos ha, mmioReadBytes_withMarker]
  rfl

/-! ### The host's requests -/

/-- A successful attach resets the marker; a failed one keeps it. -/
theorem execHostAttach_ignoresMarker (b l : BitVec 32) (ok : Bool) : IgnoresMarker (execHostAttach b l ok) := by
  intro s t x h
  obtain ⟨ha, ⟨rfl, rfl⟩ | ⟨rfl, rfl⟩⟩ := execHostAttach_cases h
  · exact ⟨0, execHostAttach_detached b l true (s := withMarker s x) ha⟩
  · exact ⟨x, execHostAttach_detached b l false (s := withMarker s x) ha⟩

/-- A detach of an attached block resets the marker; of a detached one it keeps it. -/
theorem execHostDetach_ignoresMarker : IgnoresMarker execHostDetach := by
  intro s t x h
  obtain ⟨ha, rfl⟩ | ⟨ha, rfl⟩ := execHostDetach_cases h
  · exact ⟨0, if_pos ha⟩
  · exact ⟨x, if_neg (by simp [ha])⟩

/-! ### Every request but HOST.DIAG -/

/-- The index reads 0x3C7 and 0x3C8 return a cursor, and the ports outside the DAC leave it alone, so the marker passes
through these unread; each other operation has its lemma above. -/
theorem exec_ignoresMarker {i : Instr} (hi : i ≠ .hostDiag) : IgnoresMarker (exec i) := by
  cases i with
  | hostDiag => exact absurd rfl hi
  | inCrtiMono z | inCrtiColour z | inCrtdMono z | inCrtdColour z | inSeqi z | inSeqd z | inGri z | inGrd z
  | inAttr z | inAttrd z | inDacri z | inDacwi z | inSt0 z | inMiscr z | inFeatr z | inSt1Mono z | inSt1Colour z
  | inEna z | inNone _ z =>
    exact ioRead_ignoresMarker _ (fun _ x => ⟨x, rfl⟩) z
  | inDacd z => exact ioRead_ignoresMarker _ opInDacd_ignoresMarker z
  | outCrtiMono d | outCrtiColour d | outCrtdMono d | outCrtdColour d | outSeqi d | outSeqd d | outGri d | outGrd d
  | outAttrd d | outMisc d | outMiscr d | outFeatr d | outFeatMono d | outFeatColour d | outEna d | outNone _ d =>
    exact ioWrite_ignoresMarker _ (fun _ _ x => ⟨x, rfl⟩) d
  | outAttr d => exact ioWrite_ignoresMarker _ opOutAttr_ignoresMarker d
  | outDacri d => exact ioWrite_ignoresMarker _ opOutDacri_ignoresMarker d
  | outDacwi d => exact ioWrite_ignoresMarker _ opOutDacwi_ignoresMarker d
  | outDacd d => exact ioWrite_ignoresMarker _ opOutDacd_ignoresMarker d
  | mmioW off bytes => exact execMmioW_ignoresMarker off bytes
  | mmioR off len => exact execMmioR_ignoresMarker off len
  | hostAttach b l ok => exact execHostAttach_ignoresMarker b l ok
  | hostDetach => exact execHostDetach_ignoresMarker

/-- Settles O56: the index writes set the marker, HOST.DIAG returns it, and no other request depends on it. -/
theorem dacStateHasNoFurtherEffect : Obligations.DacStateHasNoFurtherEffect := by
  refine ⟨fun s v ha => ⟨?_, ?_, ?_⟩, fun i s t x hi h => exec_ignoresMarker hi s t x h⟩
  · exact ⟨_, ioWrite_runs 0x3C8 opOutDacwi (.b8 v) s ha (.inl rfl), rfl⟩
  · exact ⟨_, ioWrite_runs 0x3C7 opOutDacri (.b8 v) s ha (.inl rfl), rfl⟩
  · exact ⟨_, if_pos ha, rfl⟩

end Sys2Proof.Proofs
end

section
/-! The window and the selected memory map: the rebase rule (O34), the bytes beyond the window (O45) and the bytes
outside the map (O46). -/

namespace Sys2Proof.Proofs

open Sys2Proof.Machine Sys2Proof.Laws

/-! ### Rebasing -/

/-- The row of R83 that each map mode selects. -/
theorem mapRegion_eq_iff (s : State) (base size : Nat) :
    s.mapRegion = (base, size) ↔
      (s.memoryMapMode = 0 ∧ base = 0xA0000 ∧ size = s.cfg.windowLen.toNat) ∨
        (s.memoryMapMode = 1 ∧ base = 0xA0000 ∧ size = 0x10000) ∨
        (s.memoryMapMode = 2 ∧ base = 0xB0000 ∧ size = 0x8000) ∨
        (s.memoryMapMode = 3 ∧ base = 0xB8000 ∧ size = 0x8000) := by
  have four : ∀ m : BitVec 2, m = 0 ∨ m = 1 ∨ m = 2 ∨ m = 3 := by decide
  unfold State.mapRegion
  obtain h | h | h | h := four s.memoryMapMode <;> simp [h, eq_comm]

/-- R84 without the cut-off subtraction: the rebased address is the one whose sum with the map's base is the byte's
address, and it lies below the map's size. -/
theorem rebase_eq_some_iff (s : State) (off r : Nat) :
    s.rebase off = some r ↔
      s.cfg.windowBase.toNat + off = s.mapRegion.1 + r ∧ r < s.mapRegion.2 := by
  simp only [State.rebase, Option.ite_none_left_eq_some, Option.some.injEq]
  omega

/-- In a window that starts at the base of the map, an offset in the map is its own rebased address. -/
theorem rebase_self {s : State} {off base size : Nat} (hm : s.mapRegion = (base, size))
    (hb : s.cfg.windowBase.toNat = base) (ho : off < size) : s.rebase off = some off := by
  rw [rebase_eq_some_iff, hm, hb]
  exact ⟨rfl, ho⟩

/-- Settles O34: the map's base and size are a row of R83, and rebasing subtracts that base without wrap-around. -/
theorem rebaseRule : Obligations.RebaseRule := by
  refine ⟨fun s off r => ?_, fun s off hb hl => ⟨fun hm ho => ?_, fun hm ho => ?_⟩⟩
  · simp only [rebase_eq_some_iff, ← mapRegion_eq_iff]
    exact ⟨fun h => ⟨_, _, rfl, h⟩, fun ⟨_, _, hm, h⟩ => by rwa [hm]⟩
  · have region : s.mapRegion = (0xA0000, 0x20000) := (mapRegion_eq_iff ..).2 (.inl ⟨hm, rfl, by rw [hl]; rfl⟩)
    exact rebase_self region (by rw [hb]; rfl) ho
  · have region : s.mapRegion = (0xA0000, 0x10000) := (mapRegion_eq_iff ..).2 (.inr (.inl ⟨hm, rfl, rfl⟩))
    exact rebase_self region (by rw [hb]; rfl) ho

/-! ### One byte of a request -/

/-- A byte outside the map is written nowhere (R94). -/
theorem mmioByteWrite_outOfMap {s : State} {a : Nat} (h : s.rebase a = none) (v : Byte) :
    s.mmioByteWrite a v = .ok s := by
  simp only [State.mmioByteWrite, State.decodeWrite, h]
  rfl

/-- A byte outside the map reads as 0x00 and loads no latch (R94). -/
theorem mmioByteRead_outOfMap {s : State} {a : Nat} (h : s.rebase a = none) : s.mmioByteRead a = (0x00, s) := by
  simp only [State.mmioByteRead, State.decodeRead, h]

/-- Addresses that are all outside the map, as the first and the others. -/
theorem rebase_none_first_rest {s : State} {a n : Nat} (h : ∀ k, k < n + 1 → s.rebase (a + k) = none) :
    s.rebase a = none ∧ ∀ k, k < n → s.rebase (a + 1 + k) = none := by
  obtain ⟨h0, hs⟩ := Nat.forall_lt_succ_left.1 h
  refine ⟨h0, fun k hk => ?_⟩
  rw [Nat.add_assoc, Nat.add_comm 1 k]
  exact hs k hk

theorem mmioWriteBytes_cons_beyond {s t : State} {a : Nat} {v : Byte} {vs : List Byte} {first : Option Nat}
    (ha : s.cfg.windowLen.toNat ≤ a) (h : s.mmioWriteBytes (a + 1) vs = .ok (t, first)) :
    s.mmioWriteBytes a (v :: vs) = .ok (t, some a) := by
  simp only [State.mmioWriteBytes, if_pos ha, h]

theorem mmioWriteBytes_cons_inWindow {s t : State} {a : Nat} {v : Byte} {vs : List Byte}
    (ha : a < s.cfg.windowLen.toNat) (h : s.mmioByteWrite a v = .ok t) :
    s.mmioWriteBytes a (v :: vs) = t.mmioWriteBytes (a + 1) vs := by
  simp only [State.mmioWriteBytes, if_neg (Nat.not_le.2 ha), h]

/-- Everything the first byte of a completing write can do: beyond the window it is skipped and reported, in the window
it is written. -/
theorem mmioWriteBytes_cons_cases {s t : State} {a : Nat} {v : Byte} {vs : List Byte} {first : Option Nat}
    (h : s.mmioWriteBytes a (v :: vs) = .ok (t, first)) :
    (s.cfg.windowLen.toNat ≤ a ∧ first = some a ∧ ∃ later, s.mmioWriteBytes (a + 1) vs = .ok (t, later)) ∨
      (a < s.cfg.windowLen.toNat ∧
        ∃ u, s.mmioByteWrite a v = .ok u ∧ u.mmioWriteBytes (a + 1) vs = .ok (t, first)) := by
  unfold State.mmioWriteBytes at h
  split at h
  · next ha =>
    split at h
    · cases h
    · next hr => cases h; exact .inl ⟨ha, rfl, _, hr⟩
  · next ha =>
    split at h
    · cases h
    · next hb => exact .inr ⟨Nat.not_le.1 ha, _, hb, h⟩

theorem mmioReadBytes_succ_beyond {s : State} {a : Nat} (n : Nat) (ha : s.cfg.windowLen.toNat ≤ a) :
    s.mmioReadBytes a (n + 1) =
      (0x00 :: (s.mmioReadBytes (a + 1) n).1, some a, (s.mmioReadBytes (a + 1) n).2.2) :=
  if_pos ha

theorem mmioReadBytes_succ_inWindow {s : State} {a : Nat} (n : Nat) (ha : a < s.cfg.windowLen.toNat) :
    s.mmioReadBytes a (n + 1) =
      ((s.mmioByteRead a).1 :: ((s.mmioByteRead a).2.mmioReadBytes (a + 1) n).1,
        ((s.mmioByteRead a).2.mmioReadBytes (a + 1) n).2) :=
  if_neg (Nat.not_le.2 ha)

theorem mmioByteRead_cfg (s : State) (a : Nat) : (s.mmioByteRead a).2.cfg = s.cfg := by
  obtain ⟨l, hl⟩ := mmioByteRead_latch s a
  rw [hl]

/-! ### The bytes of a request, in one part of the window -/

/-- Bytes from beyond the window on change nothing and report the first of them (R93). -/
theorem mmioWriteBytes_beyond {s : State} {a : Nat} {bs : List Byte} (ha : s.cfg.windowLen.toNat ≤ a) (hb : bs ≠ []) :
    s.mmioWriteBytes a bs = .ok (s, some a) := by
  induction bs generalizing a with
  | nil => exact absurd rfl hb
  | cons v vs ih =>
    by_cases hv : vs = []
    · subst hv
      exact mmioWriteBytes_cons_beyond ha rfl
    · exact mmioWriteBytes_cons_beyond ha (ih (by omega) hv)

/-- Bytes from beyond the window on read as zeros, load no latch and report the first of them (R93). -/
theorem mmioReadBytes_beyond {s : State} {a n : Nat} (ha : s.cfg.windowLen.toNat ≤ a) (hn : n ≠ 0) :
    s.mmioReadBytes a n = (List.replicate n 0x00, some a, s) := by
  induction n generalizing a with
  | zero => exact absurd rfl hn
  | succ n ih =>
    rw [mmioReadBytes_succ_beyond n ha]
    by_cases hn' : n = 0
    · subst hn'
      rfl
    · rw [ih (by omega) hn']
      rfl

/-- Bytes in the window that are all outside the map change nothing and report nothing (R94). -/
theorem mmioWriteBytes_outOfMap {s : State} {a : Nat} {bs : List Byte}
    (hin : a + bs.length ≤ s.cfg.windowLen.toNat) (hout : ∀ k, k < bs.length → s.rebase (a + k) = none) :
    s.mmioWriteBytes a bs = .ok (s, none) := by
  induction bs generalizing a with
  | nil => rfl
  | cons v vs ih =>
    rw [List.length_cons] at hin hout
    obtain ⟨here, others⟩ := rebase_none_first_rest hout
    rw [mmioWriteBytes_cons_inWindow (by omega) (mmioByteWrite_outOfMap here v)]
    exact ih (by omega) others

/-- Bytes in the window that are all outside the map read as zeros, load no latch and report nothing (R94). -/
theorem mmioReadBytes_outOfMap {s : State} {a n : Nat} (hin : a + n ≤ s.cfg.windowLen.toNat)
    (hout : ∀ k, k < n → s.rebase (a + k) = none) : s.mmioReadBytes a n = (List.replicate n 0x00, none, s) := by
  induction n generalizing a with
  | zero => rfl
  | succ n ih =>
    obtain ⟨here, others⟩ := rebase_none_first_rest hout
    rw [mmioReadBytes_succ_inWindow n (by omega), mmioByteRead_outOfMap here, ih (by omega) others]
    rfl

/-- A write that ends in the window reports no offset. -/
theorem mmioWriteBytes_inWindow_first {s t : State} {a : Nat} {bs : List Byte} {first : Option Nat}
    (h : s.mmioWriteBytes a bs = .ok (t, first)) (hin : a + bs.length ≤ s.cfg.windowLen.toNat) : first = none := by
  induction bs generalizing s a with
  | nil => cases h; rfl
  | cons v vs ih =>
    rw [List.length_cons] at hin
    obtain ⟨ha, -, -⟩ | ⟨-, u, hu, hr⟩ := mmioWriteBytes_cons_cases h
    · omega
    · exact ih hr (by rw [(mmioByteWrite_same hu).cfg]; omega)

/-- A read that ends in the window reports no offset. -/
theorem mmioReadBytes_inWindow_first {s : State} {a n : Nat} (hin : a + n ≤ s.cfg.windowLen.toNat) :
    (s.mmioReadBytes a n).2.1 = none := by
  induction n generalizing s a with
  | zero => rfl
  | succ n ih =>
    rw [mmioReadBytes_succ_inWindow n (by omega)]
    exact ih (by rw [mmioByteRead_cfg]; omega)

/-! ### A request as its first part and the rest -/

/-- The bytes of a write are handled in order, the rest from the state the first part leaves; the first reported offset
of the whole is that of the first part, if it has one (R250, R252). -/
theorem mmioWriteBytes_append {s t u : State} {a : Nat} {bs cs : List Byte} {first later : Option Nat}
    (h : s.mmioWriteBytes a bs = .ok (t, first)) (h' : t.mmioWriteBytes (a + bs.length) cs = .ok (u, later)) :
    s.mmioWriteBytes a (bs ++ cs) = .ok (u, first.or later) := by
  induction bs generalizing s a first with
  | nil => cases h; exact h'
  | cons v vs ih =>
    rw [List.length_cons, Nat.add_comm vs.length, ← Nat.add_assoc] at h'
    obtain ⟨ha, rfl, g, hr⟩ | ⟨ha, w, hw, hr⟩ := mmioWriteBytes_cons_cases h
    · exact mmioWriteBytes_cons_beyond ha (ih hr h')
    · exact (mmioWriteBytes_cons_inWindow ha hw).trans (ih hr h')

/-- The same of a read (R251, R252). -/
theorem mmioReadBytes_append (s : State) (a n m : Nat) :
    s.mmioReadBytes a (n + m) =
      ((s.mmioReadBytes a n).1 ++ ((s.mmioReadBytes a n).2.2.mmioReadBytes (a + n) m).1,
        (s.mmioReadBytes a n).2.1.or ((s.mmioReadBytes a n).2.2.mmioReadBytes (a + n) m).2.1,
        ((s.mmioReadBytes a n).2.2.mmioReadBytes (a + n) m).2.2) := by
  induction n generalizing s a with
  | zero => rw [Nat.zero_add]; rfl
  | succ n ih =>
    rw [Nat.succ_add, Nat.add_comm n 1, ← Nat.add_assoc, Nat.add_comm 1 n]
    by_cases ha : s.cfg.windowLen.toNat ≤ a
    · rw [mmioReadBytes_succ_beyond _ ha, mmioReadBytes_succ_beyond _ ha, ih]
      rfl
    · have ha := Nat.not_le.1 ha
      rw [mmioReadBytes_succ_inWindow _ ha, mmioReadBytes_succ_inWindow _ ha, ih]
      rfl

/-! ### Whole requests -/

theorem exec_mmioW_of_bytes {s t : State} {off : Offset} {bs : List Byte} {first : Option Nat}
    (ha : s.attached = true) (h : s.mmioWriteBytes off.toNat bs = .ok (t, first)) :
    exec (.mmioW off bs) s = .next (t.respond none (mmioStatus first)) := by
  change execMmioW off bs s = _
  unfold execMmioW
  rw [if_pos ha, h]

theorem exec_mmioR_attached {s : State} (off : Offset) (n : Nat) (ha : s.attached = true) :
    exec (.mmioR off n) s =
      .next ((s.mmioReadBytes off.toNat n).2.2.respond (some (.mmio (s.mmioReadBytes off.toNat n).1))
        (mmioStatus (s.mmioReadBytes off.toNat n).2.1)) :=
  if_pos ha

/-- A write that goes on past the window's end does what its part in the window does (R93). -/
theorem exec_mmioW_pastEnd {s t : State} {off : Offset} {bs cs : List Byte}
    (hend : off.toNat + bs.length = s.cfg.windowLen.toNat) (hc : cs ≠ []) (h : exec (.mmioW off bs) s = .next t) :
    exec (.mmioW off (bs ++ cs)) s =
      .next (t.respond none (.outOfRangeAddress s.cfg.windowLen.toNat)) := by
  obtain ⟨ha, u, first, hu, same, rfl⟩ := execMmioW_cases h
  obtain rfl := mmioWriteBytes_inWindow_first hu (Nat.le_of_eq hend)
  have rest : u.mmioWriteBytes (off.toNat + bs.length) cs = .ok (u, some s.cfg.windowLen.toNat) := by
    rw [hend]
    exact mmioWriteBytes_beyond (Nat.le_of_eq (congrArg (·.windowLen.toNat) same.cfg)) hc
  exact exec_mmioW_of_bytes ha (mmioWriteBytes_append hu rest)

/-- A read that goes on past the window's end returns its part in the window, then zeros (R93). -/
theorem exec_mmioR_pastEnd {s t : State} {off : Offset} {n m : Nat}
    (hend : off.toNat + n = s.cfg.windowLen.toNat) (hm : m ≠ 0) (h : exec (.mmioR off n) s = .next t) :
    ∃ bytes, t.response = some { rdata := some (.mmio bytes), status := .ok } ∧
      exec (.mmioR off (n + m)) s =
        .next (t.respond (some (.mmio (bytes ++ List.replicate m 0x00)))
          (.outOfRangeAddress s.cfg.windowLen.toNat)) := by
  have ha : s.attached = true := (execMmioR_cases h).1
  rw [exec_mmioR_attached off n ha, mmioReadBytes_inWindow_first (Nat.le_of_eq hend)] at h
  cases h
  refine ⟨_, rfl, ?_⟩
  have rest : (s.mmioReadBytes off.toNat n).2.2.mmioReadBytes (off.toNat + n) m =
      (List.replicate m 0x00, some s.cfg.windowLen.toNat, (s.mmioReadBytes off.toNat n).2.2) := by
    obtain ⟨l, hl⟩ := mmioReadBytes_state n s off.toNat
    rw [hend]
    exact mmioReadBytes_beyond (Nat.le_of_eq (congrArg (·.cfg.windowLen.toNat) hl)) hm
  rw [exec_mmioR_attached off (n + m) ha, mmioReadBytes_append, rest,
    mmioReadBytes_inWindow_first (Nat.le_of_eq hend)]
  rfl

/-- Settles O45: the bytes beyond the window are skipped, on their own or after the part in the window. -/
theorem outOfWindowBytes : Obligations.OutOfWindowBytes := by
  refine ⟨fun s off ha hoff => ⟨fun bytes hb => ?_, fun len hl => ?_⟩,
    fun s t off _ => ⟨fun bytes beyond hend hb h => ?_, fun n m hend hm h => ?_⟩⟩
  · exact exec_mmioW_of_bytes ha (mmioWriteBytes_beyond hoff hb)
  · rw [exec_mmioR_attached off len ha, mmioReadBytes_beyond hoff hl]
    rfl
  · exact exec_mmioW_pastEnd hend hb h
  · exact exec_mmioR_pastEnd hend hm h

/-- Settles O46: a byte that does not rebase is decoded as no access, and so is each byte of such a request. -/
theorem outOfMapBytes : Obligations.OutOfMapBytes := by
  refine ⟨fun s a h => ⟨mmioByteWrite_outOfMap h, mmioByteRead_outOfMap h⟩,
    fun s off n ha hin hout => ⟨fun bytes hn => ?_, ?_⟩⟩
  · subst hn
    exact exec_mmioW_of_bytes ha (mmioWriteBytes_outOfMap hin hout)
  · rw [exec_mmioR_attached off n ha, mmioReadBytes_outOfMap hin hout]
    rfl

end Sys2Proof.Proofs
end

section
/-! The decoder: the words it refuses (O3), the one operation it reads from every other word (O2), and the pairs of
ports that select one operation (O19). -/

namespace Sys2Proof.Proofs

open Sys2Proof.Machine Sys2Proof.Laws

/-! ### The words each format refuses -/

/-- The size code 11 is the reserved one (R116). -/
theorem decodeSize_eq_none_iff (sz : BitVec 2) : decodeSize sz = none ↔ sz = 3#2 := by
  revert sz
  decide

theorem decodeIo_error_iff (r : Request) :
    (∃ why, decodeIo r = .error why) ↔ fieldIoReserved r.word ≠ 0#11 ∨ fieldSz r.word = 3#2 := by
  rw [← decodeSize_eq_none_iff]
  unfold decodeIo
  by_cases hbits : fieldIoReserved r.word = 0#11
  · cases hsize : decodeSize (fieldSz r.word) with
    | none => simp [hbits]
    | some size => cases hdir : fieldDir r.word <;> simp [hbits]
  · simp [hbits]

/-- No MMIO word is reserved (R117). -/
theorem decodeMmio_ne_error (r : Request) (why : ReservedWord) : decodeMmio r ≠ .error why := by
  unfold decodeMmio
  cases fieldDir r.word <;> simp

theorem decodeHost_error_iff (r : Request) :
    (∃ why, decodeHost r = .error why) ↔
      fieldDir r.word = true ∨ fieldHostReserved r.word ≠ 0#21 ∨
        (fieldHostop r.word ≠ 1#8 ∧ fieldHostop r.word ≠ 2#8 ∧ fieldHostop r.word ≠ 3#8) := by
  unfold decodeHost
  by_cases hdir : fieldDir r.word = true
  · simp [hdir]
  by_cases hbits : fieldHostReserved r.word = 0#21
  · by_cases hattach : fieldHostop r.word = 1#8
    · simp [hdir, hbits, hattach]
    by_cases hdetach : fieldHostop r.word = 2#8
    · simp [hdir, hbits, hdetach]
    by_cases hdiag : fieldHostop r.word = 3#8 <;> simp [hdir, hbits, hattach, hdetach, hdiag]
  · simp [hdir, hbits]

/-- R119: the reserved words, format by format. -/
theorem decode_error_iff_reservedForm (r : Request) : (∃ why, decode r = .error why) ↔ ReservedForm r.word := by
  have formats : ∀ space : BitVec 2, space = 0#2 ∨ space = 1#2 ∨ space = 2#2 ∨ space = 3#2 := by decide
  change _ ↔ fieldSpace r.word = 3#2 ∨
    (fieldSpace r.word = 0#2 ∧ (fieldIoReserved r.word ≠ 0#11 ∨ fieldSz r.word = 3#2)) ∨
    (fieldSpace r.word = 2#2 ∧ (fieldDir r.word = true ∨ fieldHostReserved r.word ≠ 0#21 ∨
      (fieldHostop r.word ≠ 1#8 ∧ fieldHostop r.word ≠ 2#8 ∧ fieldHostop r.word ≠ 3#8)))
  rw [← decodeIo_error_iff, ← decodeHost_error_iff]
  unfold decode
  obtain h | h | h | h := formats (fieldSpace r.word)
  · simp [h]
  · simp [h, decodeMmio_ne_error]
  · simp [h]
  · simp [h]

/-- A pending request with a reserved word is refused, marked as overlapping or not (R307). -/
theorem step_of_reserved {s : State} {a : Arrival} {rest : List Arrival} {why : ReservedWord}
    (hq : s.requests = a :: rest) (hd : decode a.req = .error why) : step s = .refused (.reservedEncoding why) := by
  have fetched : s.fetch = .reserved why := by simp [State.fetch, hq, hd]
  rw [step, fetched]

/-- Settles O3: each format refuses its own reserved words, and the step passes the decoder's reason on. -/
theorem reservedWordsAreRefused : Obligations.ReservedWordsAreRefused := by
  refine ⟨decode_error_iff_reservedForm, fun s a rest hq hres => ?_⟩
  obtain ⟨why, hd⟩ := (decode_error_iff_reservedForm a.req).2 hres
  exact ⟨why, step_of_reserved hq hd⟩

/-! ### The operation each other word selects -/

/-- The IN column names IN.NONE only past all of its own ports (R122). -/
theorem decodeIn_wellFormed (port : Port) (size : IoSize) : WellFormed (decodeIn port size) = true := by
  unfold decodeIn
  split
  case h_20 => simp_all [WellFormed, mappedPorts]
  all_goals rfl

/-- The OUT column names OUT.NONE only past all of its own ports (R122). -/
theorem decodeOut_wellFormed (port : Port) (d : IoData) : WellFormed (decodeOut port d) = true := by
  unfold decodeOut
  split
  case h_20 => simp_all [WellFormed, mappedPorts]
  all_goals rfl

theorem decodeIo_wellFormed {r : Request} {i : Instr} (h : decodeIo r = .ok i) : WellFormed i = true := by
  unfold decodeIo at h
  split at h
  · cases h
  · split at h
    · cases h
    · split at h
      · cases h; exact decodeOut_wellFormed _ _
      · cases h; exact decodeIn_wellFormed _ _

theorem decodeMmio_wellFormed {r : Request} {i : Instr} (h : decodeMmio r = .ok i) : WellFormed i = true := by
  unfold decodeMmio at h
  split at h
  · cases h; rfl
  · cases h; rfl

theorem decodeHost_wellFormed {r : Request} {i : Instr} (h : decodeHost r = .ok i) : WellFormed i = true := by
  unfold decodeHost at h
  split at h
  · cases h
  · split at h
    · cases h
    · split at h
      · cases h; rfl
      · split at h
        · cases h; rfl
        · split at h
          · cases h; rfl
          · cases h

/-- The decoder answers with well-formed operations only, whatever the word's format. -/
theorem decode_wellFormed {r : Request} {i : Instr} (h : decode r = .ok i) : WellFormed i = true := by
  unfold decode at h
  split at h
  · exact decodeIo_wellFormed h
  · split at h
    · exact decodeMmio_wellFormed h
    · split at h
      · exact decodeHost_wellFormed h
      · cases h

/-- Settles O2: a word that is not reserved has an operation, and the decoder is a function. -/
theorem validWordSelectsOneOperation : Obligations.ValidWordSelectsOneOperation := by
  intro r hres
  cases hd : decode r with
  | error why => exact absurd ((decode_error_iff_reservedForm r).1 ⟨why, hd⟩) hres
  | ok i => exact ⟨i, rfl, decode_wellFormed hd, fun j hj => (Except.ok.inj hj).symm⟩

/-! ### Pairs of ports with one operation (R121) -/

/-- A one-byte read does not name its port in its answer, so two ports with the same operation are read alike. -/
theorem ioRead_byte_port (p q : Port) (op : State → Byte × State) (s : State) :
    ioRead p op .byte s = ioRead q op .byte s := rfl

/-- The same of a one-byte write. -/
theorem ioWrite_byte_port (p q : Port) (op : Byte → State → State) (v : Byte) (s : State) :
    ioWrite p op (.b8 v) s = ioWrite q op (.b8 v) s := rfl

/-- Settles O19: the ports of a pair run the same operation on one byte, and attachment alone decides whether it
completes. -/
theorem aliasPortsAgree : Obligations.AliasPortsAgree := by
  intro s v
  refine ⟨ioRead_byte_port 0x3B4 0x3D4 opInCrti s, ioWrite_byte_port 0x3B4 0x3D4 opOutCrti v s,
    ioRead_byte_port 0x3B5 0x3D5 opInCrtd s, ioWrite_byte_port 0x3B5 0x3D5 opOutCrtd v s,
    ioRead_byte_port 0x3BA 0x3DA opInSt1 s, ioWrite_byte_port 0x3BA 0x3DA opOutFeat v s, fun ha => ?_⟩
  have reads (p : Port) (op : State → Byte × State) : ∃ t, ioRead p op .byte s = .next t :=
    ⟨_, ioRead_runs p op .byte s ha (.inl rfl)⟩
  have writes (p : Port) (op : Byte → State → State) : ∃ t, ioWrite p op (.b8 v) s = .next t :=
    ⟨_, ioWrite_runs p op (.b8 v) s ha (.inl rfl)⟩
  exact ⟨reads 0x3D4 opInCrti, writes 0x3D4 opOutCrti, reads 0x3D5 opInCrtd, writes 0x3D5 opOutCrtd,
    reads 0x3DA opInSt1, writes 0x3DA opOutFeat⟩

end Sys2Proof.Proofs
end

section
/-! The I/O dispatch: wide accesses under TRUNCATE (O8) and under IGNORE (O9), the completion of every I/O operation
(O10), and the ports no row lists (O11). -/

namespace Sys2Proof.Proofs

open Sys2Proof.Machine Sys2Proof.Laws

/-! ### Every I/O operation is the I/O procedure at its own port -/

/-- The operation is the I/O procedure for a read of this port and size, over a one-byte operation `op`; and its narrow
form is the one-byte read over the same `op` (R140, R142). -/
def ReadsPort (i : Instr) (port : Port) (size : IoSize) (op : State → Byte × State) : Prop :=
  ∀ s, exec i s = ioRead port op size s ∧ exec i.narrow s = ioRead port op .byte s

/-- The operation is the I/O procedure for a write of this value to this port, over a one-byte operation `op`; and its
narrow form is the write of the low byte over the same `op` (R140, R142). -/
def WritesPort (i : Instr) (port : Port) (d : IoData) (op : Byte → State → State) : Prop :=
  ∀ s, exec i s = ioWrite port op d s ∧ exec i.narrow s = ioWrite port op (.b8 (dataByte d)) s

/-- R140: an operation with an I/O access is the I/O procedure of that port, in that direction and at that size. -/
theorem ioAccess_cases {i : Instr} {port : Port} {size : IoSize} {isWrite : Bool}
    (h : i.ioAccess = some (port, size, isWrite)) :
    (isWrite = false ∧ ∃ op, ReadsPort i port size op) ∨
      (isWrite = true ∧ ∃ d op, d.size = size ∧ WritesPort i port d op) := by
  cases i with
  | inCrtiMono z | inCrtiColour z | inCrtdMono z | inCrtdColour z | inSeqi z | inSeqd z | inGri z | inGrd z
  | inAttr z | inAttrd z | inDacri z | inDacwi z | inDacd z | inSt0 z | inMiscr z | inFeatr z | inSt1Mono z
  | inSt1Colour z | inEna z | inNone _ z =>
    cases h
    exact .inl ⟨rfl, _, fun _ => ⟨rfl, rfl⟩⟩
  | outCrtiMono d | outCrtiColour d | outCrtdMono d | outCrtdColour d | outSeqi d | outSeqd d | outGri d | outGrd d
  | outAttr d | outAttrd d | outDacri d | outDacwi d | outDacd d | outMisc d | outMiscr d | outFeatr d | outFeatMono d
  | outFeatColour d | outEna d | outNone _ d =>
    cases h
    exact .inr ⟨rfl, d, _, rfl, fun _ => ⟨rfl, rfl⟩⟩
  | mmioW _ _ | mmioR _ _ | hostAttach _ _ _ | hostDetach | hostDiag => cases h

/-! ### Wide accesses -/

theorem ioStatus_wide (port : Port) {size : IoSize} (hz : size ≠ .byte) :
    ioStatus port size = .invalidAccessWidth port size :=
  if_neg hz

/-- Under IGNORE only a one-byte access has its operation's effect (R143). -/
theorem not_ioRuns_of_ignore {s : State} {size : IoSize} (hz : size ≠ .byte) (hp : s.params.wideIo = .ignore) :
    ¬ IoRuns s size := by
  rintro (hbyte | htrunc)
  · exact hz hbyte
  · rw [hp] at htrunc
    cases htrunc

/-- Settles O8: the wide access and its narrow form run the same one-byte operation of the same port, so they differ in
the response alone. -/
theorem wideAccessTruncates : Obligations.WideAccessTruncates := by
  intro i s port size isWrite hi hz ha hp
  obtain ⟨rfl, op, hop⟩ | ⟨rfl, d, op, rfl, hop⟩ := ioAccess_cases hi
  · obtain ⟨wide, narrow⟩ := hop s
    rw [ioRead_runs port op size s ha (.inr hp), ioStatus_wide port hz] at wide
    rw [ioRead_runs port op .byte s ha (.inl rfl)] at narrow
    exact ⟨_, narrow, nofun, fun _ => ⟨(op s).1, rfl, wide⟩⟩
  · obtain ⟨wide, narrow⟩ := hop s
    rw [ioWrite_runs port op d s ha (.inr hp), ioStatus_wide port hz] at wide
    rw [ioWrite_runs port op (.b8 (dataByte d)) s ha (.inl rfl)] at narrow
    exact ⟨_, narrow, fun _ => wide, nofun⟩

/-- Settles O9: under IGNORE the I/O procedure gives a wide access its response without the port's operation. -/
theorem wideAccessIgnored : Obligations.WideAccessIgnored := by
  intro i s port size isWrite hi hz ha hp
  have ignored : ¬ IoRuns s size := not_ioRuns_of_ignore hz hp
  rw [← ioStatus_wide port hz]
  obtain ⟨rfl, op, hop⟩ | ⟨rfl, d, op, rfl, hop⟩ := ioAccess_cases hi
  · exact (hop s).1.trans (ioRead_ignored port op size s ha ignored)
  · exact (hop s).1.trans (ioWrite_ignored port op d s ha ignored)

/-! ### Every I/O operation completes while attached -/

/-- Whatever the port's operation and the policy, an attached block answers a read with data and the status of its
width (R141). -/
theorem ioRead_attached_completes (port : Port) (op : State → Byte × State) (size : IoSize) {s : State}
    (ha : s.attached = true) :
    ∃ (u : State) (v : Byte),
      ioRead port op size s = .next (u.respond (some (.io (zextByte size v))) (ioStatus port size)) := by
  by_cases hr : IoRuns s size
  · exact ⟨_, _, ioRead_runs port op size s ha hr⟩
  · exact ⟨_, _, ioRead_ignored port op size s ha hr⟩

/-- The same of a write, which is answered without data (R141). -/
theorem ioWrite_attached_completes (port : Port) (op : Byte → State → State) (d : IoData) {s : State}
    (ha : s.attached = true) :
    ∃ u : State, ioWrite port op d s = .next (u.respond none (ioStatus port d.size)) := by
  by_cases hr : IoRuns s d.size
  · exact ⟨_, ioWrite_runs port op d s ha hr⟩
  · exact ⟨_, ioWrite_ignored port op d s ha hr⟩

/-- IN.NONE with its operation's effect: 0x00, and nothing but the response changes (R144). -/
theorem exec_inNone_runs {s : State} (port : Port) {z : IoSize} (ha : s.attached = true) (hr : IoRuns s z) :
    exec (.inNone port z) s = .next { s with response := gave port z 0x00 } :=
  ioRead_runs port opReadNone z s ha hr

/-- OUT.NONE with its operation's effect: nothing but the response changes (R145). -/
theorem exec_outNone_runs {s : State} (port : Port) {d : IoData} (ha : s.attached = true) (hr : IoRuns s d.size) :
    exec (.outNone port d) s = .next { s with response := wrote port d } :=
  ioWrite_runs port opWriteNone d s ha hr

/-- Settles O10: both branches of the I/O procedure answer a next state, and the port only names the operation. -/
theorem dispatchNeverFails : Obligations.DispatchNeverFails := by
  refine ⟨fun i s port size isWrite hi ha => ?_, fun s port ha =>
    ⟨exec_inNone_runs port ha (.inl rfl), fun v => exec_outNone_runs port (d := .b8 v) ha (.inl rfl)⟩⟩
  obtain ⟨rfl, op, hop⟩ | ⟨rfl, d, op, rfl, hop⟩ := ioAccess_cases hi
  · obtain ⟨u, v, hnext⟩ := ioRead_attached_completes port op size ha
    exact ⟨_, _, (hop s).1.trans hnext, rfl, rfl⟩
  · obtain ⟨u, hnext⟩ := ioWrite_attached_completes port op d ha
    exact ⟨_, _, (hop s).1.trans hnext, rfl, rfl⟩

/-! ### Ports no row lists -/

/-- Each literal row of the IN column is of a listed port, so an unlisted one falls to the last row (R144). -/
theorem decodeIn_of_unmapped {port : Port} (hp : port ∉ mappedPorts) (size : IoSize) :
    decodeIn port size = .inNone port size := by
  unfold decodeIn
  split
  case h_20 => rfl
  all_goals exact absurd (by decide) hp

/-- The same of the OUT column (R145). -/
theorem decodeOut_of_unmapped {port : Port} (hp : port ∉ mappedPorts) (d : IoData) :
    decodeOut port d = .outNone port d := by
  unfold decodeOut
  split
  case h_20 => rfl
  all_goals exact absurd (by decide) hp

/-- Settles O11: an unlisted port decodes to the operations that read 0x00 and write nothing. -/
theorem unmappedPorts : Obligations.UnmappedPorts := by
  refine ⟨fun port size d hp => ⟨?_, ?_⟩, fun s port ha =>
    ⟨fun _ hr => exec_inNone_runs port ha hr, fun _ hr => exec_outNone_runs port ha hr⟩⟩
  · rw [decode_encodeIn, decodeIn_of_unmapped hp]
  · rw [decode_encodeOut, decodeOut_of_unmapped hp]

end Sys2Proof.Proofs
end

section
/-! The ports of the CRT Controller (O12, O13), of the Sequencer with what the next decode sees of a data write (O14),
and of the Graphics Controller with the decoder inputs it writes (O15). -/

namespace Sys2Proof.Proofs

open Sys2Proof.Machine Sys2Proof.Laws

/-! ### Slots after a data write -/

theorem slot_writeData_selected {b : RegisterBank} {i : Byte} (h : b.index = i) (v : Byte) :
    (b.writeData v).slot i = v := by
  rw [slot_writeData, if_pos h.symm]

theorem slot_writeData_other {b : RegisterBank} {i : Byte} (h : b.index ≠ i) (v : Byte) :
    (b.writeData v).slot i = b.slot i := by
  rw [slot_writeData, if_neg h.symm]

/-! ### CRT Controller -/

/-- Settles O12: each alias runs the bank's index operation, and the I/O procedure adds the response alone. -/
theorem crtIndexPorts : Obligations.CrtIndexPorts := by
  refine ⟨⟨readWord_of 0x3B4 (fun _ => rfl) rfl rfl rfl, readWord_of 0x3D4 (fun _ => rfl) rfl rfl rfl,
    writeWord_of 0x3B4 (fun _ => rfl) rfl rfl rfl, writeWord_of 0x3D4 (fun _ => rfl) rfl rfl rfl⟩,
    fun s ha => ⟨fun z hr => ⟨?_, ?_⟩, fun d hr => ⟨?_, ?_⟩⟩⟩
  · exact ioRead_runs 0x3B4 opInCrti z s ha hr
  · exact ioRead_runs 0x3D4 opInCrti z s ha hr
  · exact ioWrite_runs 0x3B4 opOutCrti d s ha hr
  · exact ioWrite_runs 0x3D4 opOutCrti d s ha hr

/-- Settles O13: each alias runs the bank's data operation, and the I/O procedure adds the response alone. -/
theorem crtDataPorts : Obligations.CrtDataPorts := by
  refine ⟨⟨readWord_of 0x3B5 (fun _ => rfl) rfl rfl rfl, readWord_of 0x3D5 (fun _ => rfl) rfl rfl rfl,
    writeWord_of 0x3B5 (fun _ => rfl) rfl rfl rfl, writeWord_of 0x3D5 (fun _ => rfl) rfl rfl rfl⟩,
    fun s ha => ⟨fun z hr => ⟨?_, ?_⟩, fun d hr => ⟨?_, ?_⟩⟩⟩
  · exact ioRead_runs 0x3B5 opInCrtd z s ha hr
  · exact ioRead_runs 0x3D5 opInCrtd z s ha hr
  · exact ioWrite_runs 0x3B5 opOutCrtd d s ha hr
  · exact ioWrite_runs 0x3D5 opOutCrtd d s ha hr

/-! ### Sequencer

The bank reaches the decoder only through `chain4` and the plane enables (R222, R233), which a data write at another
index keeps. -/

theorem chain4_opOutSeqd_other {s : State} (h : s.seq.index ≠ 4) (v : Byte) : (opOutSeqd v s).chain4 = s.chain4 := by
  rw [State.chain4, opOutSeqd_seq, slot_writeData_other h, State.chain4]

theorem planeEnabled_opOutSeqd_other {s : State} (h : s.seq.index ≠ 2) (v : Byte) (p : Plane) :
    (opOutSeqd v s).planeEnabled p = s.planeEnabled p := by
  rw [State.planeEnabled, State.mapMask, opOutSeqd_seq, slot_writeData_other h, State.planeEnabled, State.mapMask]

theorem decodeRead_opOutSeqd_other {s : State} (h4 : s.seq.index ≠ 4) (v : Byte) (a : Nat) :
    (opOutSeqd v s).decodeRead a = s.decodeRead a := by
  unfold State.decodeRead
  rw [chain4_opOutSeqd_other h4]
  rfl

theorem gatedByte_opOutSeqd_other {s : State} (h : s.seq.index ≠ 2) (v : Byte) (p : Plane) (r : Nat) (w : Byte) :
    (opOutSeqd v s).gatedByte p r w = s.gatedByte p r w := by
  unfold State.gatedByte
  rw [planeEnabled_opOutSeqd_other h]

theorem enabledBytes_opOutSeqd_other {s : State} (h : s.seq.index ≠ 2) (v : Byte) (r : Nat) (f : Plane → Byte) :
    (opOutSeqd v s).enabledBytes r f = s.enabledBytes r f := by
  unfold State.enabledBytes
  simp only [planeEnabled_opOutSeqd_other h]

theorem planarWrite_opOutSeqd_other {s : State} (h : s.seq.index ≠ 2) (v : Byte) (r : Nat) (w : Byte) :
    (opOutSeqd v s).planarWrite r w = s.planarWrite r w := by
  unfold State.planarWrite State.mode0Bytes State.mode123Write
  simp only [enabledBytes_opOutSeqd_other h]
  rfl

theorem decodeWrite_opOutSeqd_other {s : State} (h2 : s.seq.index ≠ 2) (h4 : s.seq.index ≠ 4) (v : Byte) (a : Nat)
    (w : Byte) : (opOutSeqd v s).decodeWrite a w = s.decodeWrite a w := by
  unfold State.decodeWrite
  simp only [chain4_opOutSeqd_other h4, gatedByte_opOutSeqd_other h2, planarWrite_opOutSeqd_other h2]
  rfl

/-- OUT.SEQD with its operation's effect (R161). -/
theorem exec_outSeqd_runs {s : State} {d : IoData} (ha : s.attached = true) (hr : IoRuns s d.size) :
    exec (.outSeqd d) s = .next ((opOutSeqd (dataByte d) s).respond none (ioStatus 0x3C5 d.size)) :=
  ioWrite_runs 0x3C5 opOutSeqd d s ha hr

/-- Settles O14: the ports run the bank's operations; the decoder reads slots 2 and 4, and a data write sets the one it
selects and keeps the others. -/
theorem sequencerPorts : Obligations.SequencerPorts := by
  refine ⟨⟨readWord_of 0x3C4 (fun _ => rfl) rfl rfl rfl, writeWord_of 0x3C4 (fun _ => rfl) rfl rfl rfl,
    readWord_of 0x3C5 (fun _ => rfl) rfl rfl rfl, writeWord_of 0x3C5 (fun _ => rfl) rfl rfl rfl⟩,
    fun s ha => ⟨fun z hr => ⟨?_, ?_⟩, fun d hr => ⟨?_, exec_outSeqd_runs ha hr, fun t ht => ?_⟩⟩⟩
  · exact ioRead_runs 0x3C4 opInSeqi z s ha hr
  · exact ioRead_runs 0x3C5 opInSeqd z s ha hr
  · exact ioWrite_runs 0x3C4 opOutSeqi d s ha hr
  · rw [exec_outSeqd_runs ha hr] at ht
    cases ht
    refine ⟨fun h2 => ?_, fun h4 => ?_, fun h2 h4 a v => ⟨?_, ?_⟩⟩
    · exact congrArg (·.extractLsb' 0 4) (slot_writeData_selected h2 (dataByte d))
    · exact congrArg (·.getLsbD 3) (slot_writeData_selected h4 (dataByte d))
    · exact decodeWrite_opOutSeqd_other h2 h4 (dataByte d) a v
    · exact decodeRead_opOutSeqd_other h4 (dataByte d) a

/-! ### Graphics Controller -/

/-- OUT.GRD with its operation's effect (R165). -/
theorem exec_outGrd_runs {s : State} {d : IoData} (ha : s.attached = true) (hr : IoRuns s d.size) :
    exec (.outGrd d) s = .next ((opOutGrd (dataByte d) s).respond none (ioStatus 0x3CF d.size)) :=
  ioWrite_runs 0x3CF opOutGrd d s ha hr

/-- Settles O15: the ports run the bank's operations, and each decoder input is its slot of the bank or a field of it. -/
theorem graphicsPorts : Obligations.GraphicsPorts := by
  refine ⟨⟨readWord_of 0x3CE (fun _ => rfl) rfl rfl rfl, writeWord_of 0x3CE (fun _ => rfl) rfl rfl rfl,
    readWord_of 0x3CF (fun _ => rfl) rfl rfl rfl, writeWord_of 0x3CF (fun _ => rfl) rfl rfl rfl⟩,
    fun s ha => ⟨fun z hr => ⟨?_, ?_⟩, fun d hr => ⟨?_, exec_outGrd_runs ha hr, fun t ht => ?_⟩⟩⟩
  · exact ioRead_runs 0x3CE opInGri z s ha hr
  · exact ioRead_runs 0x3CF opInGrd z s ha hr
  · exact ioWrite_runs 0x3CE opOutGri d s ha hr
  · rw [exec_outGrd_runs ha hr] at ht
    cases ht
    have written {i : Byte} (hi : s.gr.index = i) : (s.gr.writeData (dataByte d)).slot i = dataByte d :=
      slot_writeData_selected hi (dataByte d)
    exact ⟨written, written, written,
      fun h5 => ⟨congrArg (·.extractLsb' 0 2) (written h5), congrArg (·.getLsbD 4) (written h5)⟩,
      fun h6 => congrArg (·.extractLsb' 2 2) (written h6), written⟩

end Sys2Proof.Proofs
end

section
/-! The Attribute Controller: the two phases of port 0x3C0 with the table of write masks (O20), the reads of 0x3C0 and
0x3C1 (O21), and what changes the flip-flop (O22). -/

namespace Sys2Proof.Proofs

open Sys2Proof.Machine Sys2Proof.Laws

/-! ### The selected register and its write mask -/

theorem selected_toNat (a : AttributeLatch) : a.selected.toNat = a.index.toNat % 0x20 :=
  BitVec.toNat_setWidth ..

/-- The register that 0x3C1 reads, as a slot of the array (R36, R174). -/
theorem attrReadData_eq {a : AttributeLatch} {i : Fin 256} (hi : i.val = a.index.toNat % 0x20) :
    a.readData = a.data[i] := by
  obtain rfl : i = ⟨a.selected.toNat, a.selected_lt⟩ := Fin.ext (hi.trans (selected_toNat a).symm)
  rfl

/-- The data phase, as a write of a slot of the array under that slot's mask (R172). -/
theorem attrWriteData_eq {a : AttributeLatch} {i : Fin 256} (hi : i.val = a.index.toNat % 0x20) (v : Byte) :
    a.writeData v = { a with data := a.data.set i (v &&& attrMask (BitVec.ofNat 5 i.val)) } := by
  obtain rfl : i = ⟨a.selected.toNat, a.selected_lt⟩ := Fin.ext (hi.trans (selected_toNat a).symm)
  rw [BitVec.ofNat_toNat, BitVec.setWidth_eq]
  rfl

/-- The palette indices of the table (R171). -/
theorem attrMask_palette {i : BitVec 5} (hi : i.toNat ≤ 0x0F) : attrMask i = 0x3F :=
  if_pos hi

/-- The indices no named register has (R171, D8): above 0x14 no earlier row of the table applies. -/
theorem attrMask_unnamed {i : BitVec 5} (hi : 0x15 ≤ i.toNat) : attrMask i = 0xFF := by
  have low : ¬ i ≤ 0x0F#5 := by bv_omega
  obtain ⟨h10, h11, h12, h13, h14⟩ :
      i ≠ 0x10#5 ∧ i ≠ 0x11#5 ∧ i ≠ 0x12#5 ∧ i ≠ 0x13#5 ∧ i ≠ 0x14#5 := by bv_omega
  rw [attrMask, if_neg low, if_neg h10, if_neg h11, if_neg h12, if_neg h13, if_neg h14]

/-! ### Port 0x3C0 in each phase -/

theorem opOutAttr_awaitIndex {s : State} (hf : s.attr.flip = false) (v : Byte) :
    opOutAttr v s = { s with attr := { s.attr with index := v &&& 0x3F, flip := true } } := by
  rw [opOutAttr, if_neg (by simp [hf]), AttributeLatch.toggle, attrWriteIndex_flip, hf]
  rfl

theorem opOutAttr_awaitData {s : State} (hf : s.attr.flip = true) {i : Fin 256}
    (hi : i.val = s.attr.index.toNat % 0x20) (v : Byte) :
    opOutAttr v s =
      { s with attr := { s.attr with
          data := s.attr.data.set i (v &&& attrMask (BitVec.ofNat 5 i.val)), flip := false } } := by
  rw [opOutAttr, if_pos hf, attrWriteData_eq hi, AttributeLatch.toggle, hf]
  rfl

theorem opInAttr_awaitIndex {s : State} (hf : s.attr.flip = false) : opInAttr s = (s.attr.index, s) := by
  rw [opInAttr, hf]
  rfl

theorem opInAttr_awaitData {s : State} (hf : s.attr.flip = true) : opInAttr s = (0x00, s) := by
  rw [opInAttr, if_pos hf]

/-- Settles O20: the I/O procedure adds the response alone to the phase that the flip-flop selects. -/
theorem attributeWritePort : Obligations.AttributeWritePort := by
  refine ⟨writeWord_of 0x3C0 (fun _ => rfl) rfl rfl rfl,
    ⟨fun _ => attrMask_palette, rfl, rfl, rfl, rfl, rfl, fun _ => attrMask_unnamed⟩,
    fun s d ha hr => ⟨fun hf => ?_, fun hf i hi => ?_⟩⟩
  · exact (ioWrite_runs 0x3C0 opOutAttr d s ha hr).trans (by rw [opOutAttr_awaitIndex hf]; rfl)
  · exact (ioWrite_runs 0x3C0 opOutAttr d s ha hr).trans (by rw [opOutAttr_awaitData hf hi]; rfl)

/-- Settles O21: no operation of these ports changes the state, and the flip-flop hides the index alone. -/
theorem attributeReadPorts : Obligations.AttributeReadPorts := by
  refine ⟨⟨readWord_of 0x3C0 (fun _ => rfl) rfl rfl rfl, readWord_of 0x3C1 (fun _ => rfl) rfl rfl rfl,
    writeWord_of 0x3C1 (fun _ => rfl) rfl rfl rfl⟩,
    fun s ha => ⟨fun z hr => ⟨fun hf => ?_, fun hf => ?_, fun i hi => ?_⟩, fun d hr => ?_⟩⟩
  · exact (ioRead_runs 0x3C0 opInAttr z s ha hr).trans (by rw [opInAttr_awaitIndex hf]; rfl)
  · exact (ioRead_runs 0x3C0 opInAttr z s ha hr).trans (by rw [opInAttr_awaitData hf]; rfl)
  · rw [← attrReadData_eq hi]
    exact ioRead_runs 0x3C1 opInAttrd z s ha hr
  · exact ioWrite_runs 0x3C1 opOutAttrd d s ha hr

/-! ### The flip-flop -/

/-- Either phase of a 0x3C0 write ends in a toggle (R170). -/
theorem opOutAttr_flip (v : Byte) (s : State) : (opOutAttr v s).attr.flip = !s.attr.flip := by
  rw [opOutAttr_attr]
  split
  · rw [toggle_flip, attrWriteData_flip]
  · rw [toggle_flip, attrWriteIndex_flip]

/-- A read keeps the attribute latch when its operation does, whether the operation runs or not. -/
theorem ioRead_attr {port : Port} {op : State → Byte × State} {size : IoSize} {s t : State}
    (hop : (op s).2.attr = s.attr) (h : ioRead port op size s = .next t) : t.attr = s.attr := by
  obtain ⟨-, ⟨-, rfl⟩ | ⟨-, rfl⟩⟩ := ioRead_cases h
  · exact hop
  · rfl

/-- The same of a write. -/
theorem ioWrite_attr {port : Port} {op : Byte → State → State} {d : IoData} {s t : State}
    (hop : (op (dataByte d) s).attr = s.attr) (h : ioWrite port op d s = .next t) : t.attr = s.attr := by
  obtain ⟨-, ⟨-, rfl⟩ | ⟨-, rfl⟩⟩ := ioWrite_cases h
  · exact hop
  · rfl

/-- Of the guest's requests and HOST.DIAG, only a write of 0x3C0 and a read of 0x3BA or 0x3DA reach the attribute
latch (R170, R175, R206). -/
theorem exec_keeps_attr {i : Instr} {s t : State} (hi : i.isGuest = true ∨ i = .hostDiag)
    (hout : ∀ d, i ≠ .outAttr d) (hmono : ∀ z, i ≠ .inSt1Mono z) (hcolour : ∀ z, i ≠ .inSt1Colour z)
    (h : exec i s = .next t) : t.attr = s.attr := by
  cases i with
  | outAttr d => exact absurd rfl (hout d)
  | inSt1Mono z => exact absurd rfl (hmono z)
  | inSt1Colour z => exact absurd rfl (hcolour z)
  | hostAttach _ _ _ | hostDetach => obtain hg | hg := hi <;> cases hg
  | inCrtiMono z | inCrtiColour z | inCrtdMono z | inCrtdColour z | inSeqi z | inSeqd z | inGri z | inGrd z
  | inAttr z | inAttrd z | inDacri z | inDacwi z | inDacd z | inSt0 z | inMiscr z | inFeatr z | inEna z
  | inNone _ z =>
    exact ioRead_attr rfl h
  | outCrtiMono d | outCrtiColour d | outCrtdMono d | outCrtdColour d | outSeqi d | outSeqd d | outGri d | outGrd d
  | outAttrd d | outDacri d | outDacwi d | outDacd d | outMisc d | outMiscr d | outFeatr d | outFeatMono d
  | outFeatColour d | outEna d | outNone _ d =>
    exact ioWrite_attr rfl h
  | mmioW off bytes =>
    obtain ⟨-, _, _, -, hsame, rfl⟩ := execMmioW_cases h
    exact hsame.attr
  | mmioR off len =>
    obtain ⟨-, _, _, _, -, rfl⟩ := execMmioR_cases h
    rfl
  | hostDiag =>
    obtain ⟨-, rfl⟩ := execHostDiag_cases h
    rfl

/-- A status-1 read that has its effect puts the flip-flop in AwaitIndex, at either alias (R206). -/
theorem ioRead_inSt1_flip {port : Port} {z : IoSize} {s t : State} (hr : IoRuns s z)
    (h : ioRead port opInSt1 z s = .next t) : t.attr.flip = false := by
  obtain ⟨-, ⟨-, rfl⟩ | ⟨hn, -⟩⟩ := ioRead_cases h
  · rfl
  · exact absurd hr hn

/-- Settles O22: the write of 0x3C0 and the status-1 reads by their operations, and every other request by keeping the
whole latch. -/
theorem flipFlopChanges : Obligations.FlipFlopChanges := by
  intro i s t h
  refine ⟨?_, ?_, fun hi hout hmono hcolour => ?_⟩
  · rintro d rfl hr
    obtain ⟨-, ⟨-, rfl⟩ | ⟨hn, -⟩⟩ := ioWrite_cases (op := opOutAttr) h
    · exact opOutAttr_flip (dataByte d) s
    · exact absurd hr hn
  · rintro z (rfl | rfl) hr
    · exact ioRead_inSt1_flip (port := 0x3BA) hr h
    · exact ioRead_inSt1_flip (port := 0x3DA) hr h
  · exact congrArg AttributeLatch.flip (exec_keeps_attr hi hout hmono hcolour h)

end Sys2Proof.Proofs
end

section
/-! The DAC: the index ports 0x3C7 and 0x3C8 (O24), and the component writes (O25) and reads (O26) of the data port
0x3C9. -/

namespace Sys2Proof.Proofs

open Sys2Proof.Machine Sys2Proof.Laws

/-! ### The shared sub-index and the selected component -/

/-- Before the third component the sub-index moves on by one (R190, R191). -/
theorem nextSubIndex_of_lt {i : Fin 3} (h : i.val < 2) : nextSubIndex i = ⟨i.val + 1, Nat.succ_lt_succ h⟩ := by
  match i, h with
  | 0, _ => rfl
  | 1, _ => rfl

/-- The statements count the components before this one; the operations of 0x3C9 ask whether it is the third. -/
theorem ne_two_of_val_lt {i : Fin 3} (h : i.val < 2) : i ≠ 2 := Fin.ne_of_val_ne (Nat.ne_of_lt h)

/-- The component that 0x3C9 reads, as an entry and a slot of the palette (R37, R191). -/
theorem component_eq {d : DacPalette} {e : Fin 256} {c : Fin 3} (he : e.val = d.readIndex.toNat)
    (hc : d.subIndex = c) : d.component = d.palette[e][c] := by
  obtain rfl : e = ⟨d.readIndex.toNat, d.readIndex.isLt⟩ := Fin.ext he
  subst hc
  rfl

/-! ### Port 0x3C9 at each sub-index -/

theorem opOutDacd_partial {s : State} (h : s.dac.subIndex.val < 2) (v : Byte) :
    opOutDacd v s =
      { s with dac := { s.dac with
          pending := s.dac.pending.set s.dac.subIndex (v &&& 0x3F),
          subIndex := ⟨s.dac.subIndex.val + 1, Nat.succ_lt_succ h⟩ } } := by
  rw [opOutDacd, writeComponent_partial s.dac v (ne_two_of_val_lt h), nextSubIndex_of_lt h]

theorem opOutDacd_commit {s : State} (h : s.dac.subIndex = 2) (v : Byte) :
    opOutDacd v s =
      { s with dac := { s.dac with
          pending := s.dac.pending.set 2 (v &&& 0x3F),
          palette := s.dac.palette.set s.dac.writeIndex.toNat (s.dac.pending.set 2 (v &&& 0x3F))
            s.dac.writeIndex.isLt,
          writeIndex := s.dac.writeIndex + 1, subIndex := 0 } } := by
  rw [opOutDacd, writeComponent_commit s.dac v h]

theorem opInDacd_partial {s : State} (h : s.dac.subIndex.val < 2) {e : Fin 256}
    (he : e.val = s.dac.readIndex.toNat) :
    opInDacd s =
      (s.dac.palette[e][s.dac.subIndex],
        { s with dac := { s.dac with subIndex := ⟨s.dac.subIndex.val + 1, Nat.succ_lt_succ h⟩ } }) := by
  rw [opInDacd, component_eq he rfl, afterRead_eq, if_neg (ne_two_of_val_lt h), nextSubIndex_of_lt h]

theorem opInDacd_third {s : State} (h : s.dac.subIndex = 2) {e : Fin 256} (he : e.val = s.dac.readIndex.toNat) :
    opInDacd s =
      (s.dac.palette[e][2],
        { s with dac := { s.dac with readIndex := s.dac.readIndex + 1, subIndex := 0 } }) := by
  rw [opInDacd, component_eq he h, afterRead_eq, if_pos h, h]
  rfl

/-! ### The ports -/

/-- Settles O24: each index port runs its cursor's operation, and the I/O procedure adds the response alone. -/
theorem dacIndexPorts : Obligations.DacIndexPorts := by
  refine ⟨⟨readWord_of 0x3C7 (fun _ => rfl) rfl rfl rfl, writeWord_of 0x3C7 (fun _ => rfl) rfl rfl rfl,
    readWord_of 0x3C8 (fun _ => rfl) rfl rfl rfl, writeWord_of 0x3C8 (fun _ => rfl) rfl rfl rfl⟩,
    fun s ha => ⟨fun z hr => ⟨?_, ?_⟩, fun d hr => ⟨?_, ?_⟩⟩⟩
  · exact ioRead_runs 0x3C7 opInDacri z s ha hr
  · exact ioRead_runs 0x3C8 opInDacwi z s ha hr
  · exact ioWrite_runs 0x3C7 opOutDacri d s ha hr
  · exact ioWrite_runs 0x3C8 opOutDacwi d s ha hr

/-- Settles O25: the sub-index decides between keeping the component in `pending` and committing the triplet. -/
theorem dacDataWrite : Obligations.DacDataWrite := by
  refine ⟨writeWord_of 0x3C9 (fun _ => rfl) rfl rfl rfl, fun s d ha hr => ⟨fun h => ?_, fun h => ?_⟩⟩
  · exact (ioWrite_runs 0x3C9 opOutDacd d s ha hr).trans (by rw [opOutDacd_partial h]; rfl)
  · exact (ioWrite_runs 0x3C9 opOutDacd d s ha hr).trans (by rw [opOutDacd_commit h]; rfl)

/-- Settles O26: the bound is the palette's part of the invariant, and the sub-index decides whether the read index
moves on. -/
theorem dacDataRead : Obligations.DacDataRead := by
  refine ⟨readWord_of 0x3C9 (fun _ => rfl) rfl rfl rfl,
    fun s z e ha hr he => ⟨fun ⟨hpalette, _, _⟩ => hpalette e s.dac.subIndex, fun h => ?_, fun h => ?_⟩⟩
  · exact (ioRead_runs 0x3C9 opInDacd z s ha hr).trans (by rw [opInDacd_partial h he]; rfl)
  · exact (ioRead_runs 0x3C9 opInDacd z s ha hr).trans (by rw [opInDacd_third h he]; rfl)

end Sys2Proof.Proofs
end

section
/-! The misc output and input status 0 ports (O30), the feature control and input status 1 ports (O31), and the enable
port (O32). -/

namespace Sys2Proof.Proofs

open Sys2Proof.Machine Sys2Proof.Laws

/-! ### Ports whose operation keeps the state -/

/-- A read that has its effect changes the response alone when its operation keeps the state (R201, R202, R204, R208). -/
theorem ioRead_runs_keeps {op : State → Byte × State} {z : IoSize} {s : State} (port : Port) (hop : (op s).2 = s)
    (ha : s.attached = true) (hr : IoRuns s z) :
    ioRead port op z s = .next { s with response := gave port z (op s).1 } := by
  rw [ioRead_runs port op z s ha hr, hop]
  rfl

/-- The same of a write (R203, R205, R209). -/
theorem ioWrite_runs_keeps {op : Byte → State → State} {d : IoData} {s : State} (port : Port)
    (hop : op (dataByte d) s = s) (ha : s.attached = true) (hr : IoRuns s d.size) :
    ioWrite port op d s = .next { s with response := wrote port d } := by
  rw [ioWrite_runs port op d s ha hr, hop]
  rfl

/-! ### The two aliases of input status 1 and feature control -/

/-- R206 at either alias, whatever `misc.output` holds: the read answers status 1 and ends in AwaitIndex. -/
theorem ioRead_inSt1_runs {z : IoSize} {s : State} (port : Port) (ha : s.attached = true) (hr : IoRuns s z) :
    ioRead port opInSt1 z s =
      .next { s with attr := { s.attr with flip := false }, response := gave port z s.misc.status1 } :=
  ioRead_runs port opInSt1 z s ha hr

/-- R207 at either alias: the byte is stored without a mask. -/
theorem ioWrite_outFeat_runs {d : IoData} {s : State} (port : Port) (ha : s.attached = true)
    (hr : IoRuns s d.size) :
    ioWrite port opOutFeat d s =
      .next { s with misc := { s.misc with feature := dataByte d }, response := wrote port d } :=
  ioWrite_runs port opOutFeat d s ha hr

/-! ### The ports -/

/-- Settles O30: OUT.MISC alone has an effect besides the response, and the ports 0x3C2 and 0x3CC read different
registers. -/
theorem miscOutputPorts : Obligations.MiscOutputPorts := by
  refine ⟨⟨writeWord_of 0x3C2 (fun _ => rfl) rfl rfl rfl, readWord_of 0x3C2 (fun _ => rfl) rfl rfl rfl,
    readWord_of 0x3CC (fun _ => rfl) rfl rfl rfl, writeWord_of 0x3CC (fun _ => rfl) rfl rfl rfl⟩,
    fun s ha => ⟨fun z hr => ⟨?_, ?_⟩, fun d hr => ⟨?_, ?_⟩⟩⟩
  · exact ioRead_runs_keeps (op := opInSt0) 0x3C2 rfl ha hr
  · exact ioRead_runs_keeps (op := opInMiscr) 0x3CC rfl ha hr
  · exact ioWrite_runs 0x3C2 opOutMisc d s ha hr
  · exact ioWrite_runs_keeps (op := opOutMiscr) 0x3CC rfl ha hr

/-- Settles O31: the ports 0x3BA and 0x3DA run the same two operations, and 0x3CA only reads. -/
theorem featureAndStatusPorts : Obligations.FeatureAndStatusPorts := by
  refine ⟨⟨readWord_of 0x3CA (fun _ => rfl) rfl rfl rfl, writeWord_of 0x3CA (fun _ => rfl) rfl rfl rfl,
    readWord_of 0x3BA (fun _ => rfl) rfl rfl rfl, readWord_of 0x3DA (fun _ => rfl) rfl rfl rfl,
    writeWord_of 0x3BA (fun _ => rfl) rfl rfl rfl, writeWord_of 0x3DA (fun _ => rfl) rfl rfl rfl⟩,
    fun s ha => ⟨fun z hr => ⟨?_, ?_, ?_⟩, fun d hr => ⟨?_, ?_, ?_⟩⟩⟩
  · exact ioRead_runs_keeps (op := opInFeatr) 0x3CA rfl ha hr
  · exact ioRead_inSt1_runs 0x3BA ha hr
  · exact ioRead_inSt1_runs 0x3DA ha hr
  · exact ioWrite_runs_keeps (op := opOutFeatr) 0x3CA rfl ha hr
  · exact ioWrite_outFeat_runs 0x3BA ha hr
  · exact ioWrite_outFeat_runs 0x3DA ha hr

/-- Settles O32: neither operation of the port touches the state, so only the response changes. -/
theorem enablePort : Obligations.EnablePort := by
  refine ⟨⟨readWord_of 0x3C3 (fun _ => rfl) rfl rfl rfl, writeWord_of 0x3C3 (fun _ => rfl) rfl rfl rfl⟩,
    fun s ha => ⟨fun z hr => ?_, fun d hr => ?_⟩⟩
  · exact ioRead_runs_keeps (op := opInEna) 0x3C3 rfl ha hr
  · exact ioWrite_runs_keeps (op := opOutEna) 0x3C3 rfl ha hr

end Sys2Proof.Proofs
end

section
/-! The address decoder: the raw bytes of chain-4 and odd/even mode (O35), planar writes in write mode 0 (O36), planar
accesses in write modes 1 to 3 (O37), and the plane and offset of a read (O41). -/

namespace Sys2Proof.Proofs

open Sys2Proof.Machine Sys2Proof.Laws

/-! ### The plane an access selects -/

theorem chain4Plane_val (r : Nat) : (chain4Plane r).val = r % 4 := Nat.mod_mod r 4

/-- R224: bit 1 of the read map select and bit 0 of the address, as the digits of the plane number. -/
theorem oddEvenPlane_val (s : State) (r : Nat) :
    (s.oddEvenPlane r).val = 2 * (s.readMapSelect.toNat / 2 % 2) + r % 2 := by
  have bits : ∀ (b : Byte) (i : Fin 2),
      ((b &&& 0x02).toNat ||| i.val) % 4 = 2 * (b.toNat / 2 % 2) + i.val := by decide
  exact bits s.readMapSelect ⟨r % 2, Nat.mod_lt r (by decide)⟩

/-- R235: the two low bits of the read map select. -/
theorem planarReadPlane_val (s : State) : s.planarReadPlane.val = s.readMapSelect.toNat % 4 := by
  have bits : ∀ b : Byte, (b &&& 0x03).toNat % 4 = b.toNat % 4 := by decide
  exact bits s.readMapSelect

/-- The plane of a raw access: chain-4 goes before odd/even (R222). -/
def rawPlane (s : State) (r : Nat) : Plane := if s.chain4 = true then chain4Plane r else s.oddEvenPlane r

theorem rawPlane_val (s : State) (r : Nat) :
    (rawPlane s r).val =
      if s.chain4 = true then r % 4 else 2 * (s.readMapSelect.toNat / 2 % 2) + r % 2 := by
  unfold rawPlane
  split
  · exact chain4Plane_val r
  · exact oddEvenPlane_val s r

/-! ### What a byte in the map is decoded as -/

theorem decodeRead_outOfMap {s : State} {a : Nat} (h : s.rebase a = none) : s.decodeRead a = none := by
  simp only [State.decodeRead, h]

/-- R222 to R224: the write decode of both raw modes. -/
theorem decodeWrite_raw {s : State} {a r : Nat} (hr : s.rebase a = some r)
    (hm : s.chain4 = true ∨ s.oddEven = true) (v : Byte) :
    s.decodeWrite a v = .ok { bytes := s.gatedByte (rawPlane s r) r v, draws := 0 } := by
  simp only [State.decodeWrite, hr, rawPlane]
  by_cases hc : s.chain4 = true
  · simp only [if_pos hc]
  · simp only [if_neg hc, if_pos (hm.resolve_left hc)]

/-- R233, R234: a raw read uses the plane of a raw write. -/
theorem decodeRead_raw {s : State} {a r : Nat} (hr : s.rebase a = some r)
    (hm : s.chain4 = true ∨ s.oddEven = true) : s.decodeRead a = some (rawPlane s r, r) := by
  simp only [State.decodeRead, hr, rawPlane]
  by_cases hc : s.chain4 = true
  · simp only [if_pos hc]
  · simp only [if_neg hc, if_pos (hm.resolve_left hc)]

theorem decodeWrite_planar {s : State} {a r : Nat} (hr : s.rebase a = some r) (hc : s.chain4 = false)
    (ho : s.oddEven = false) (v : Byte) : s.decodeWrite a v = s.planarWrite r v := by
  simp [State.decodeWrite, hr, hc, ho]

theorem decodeRead_planar {s : State} {a r : Nat} (hr : s.rebase a = some r) (hc : s.chain4 = false)
    (ho : s.oddEven = false) : s.decodeRead a = some (s.planarReadPlane, r) := by
  simp [State.decodeRead, hr, hc, ho]

/-- Write mode 0 (R225, R229). -/
theorem decodeWrite_mode0 {s : State} {a r : Nat} (hr : s.rebase a = some r) (hc : s.chain4 = false)
    (ho : s.oddEven = false) (hm : s.writeMode = 0) (v : Byte) :
    s.decodeWrite a v = .ok { bytes := s.mode0Bytes r v, draws := 0 } :=
  (decodeWrite_planar hr hc ho v).trans (if_pos hm)

/-- The policy alone decides write modes 1, 2 and 3 (R225, R230). -/
theorem decodeWrite_mode123 {s : State} {a r : Nat} (hr : s.rebase a = some r) (hm : PlanarMode123 s) (v : Byte) :
    s.decodeWrite a v = s.mode123Write r v := by
  obtain ⟨hc, ho, hw⟩ := hm
  exact (decodeWrite_planar hr hc ho v).trans (if_neg hw)

theorem mode123Write_refuse {s : State} (hp : s.params.writeMode123 = .refuse) (r : Nat) (v : Byte) :
    s.mode123Write r v = .error .writeModeUnimplemented := by
  simp only [State.mode123Write, hp]

theorem mode123Write_draw {s : State} (hp : s.params.writeMode123 = .draw) (r : Nat) (v : Byte) :
    s.mode123Write r v = .ok { bytes := s.enabledBytes r fun p => Config.drawnByte s.draws p, draws := 1 } := by
  simp only [State.mode123Write, hp]

/-- A raw decode names at most its one plane byte (R223, R224). -/
theorem plane_offset_of_mem_gatedByte {s : State} {p : Plane} {r : Nat} {v : Byte} {b : PlaneByte}
    (h : b ∈ s.gatedByte p r v) : b.plane = p ∧ b.offset = r := by
  unfold State.gatedByte at h
  split at h
  · obtain rfl := List.mem_singleton.1 h
    exact ⟨rfl, rfl⟩
  · cases h

/-! ### One-byte writes -/

/-- A one-byte write in the window commits its decode and changes nothing else (R250, R253). -/
theorem writesPlanes_of_decodeWrite {s : State} {off : Offset} {v : Byte} {w : WriteDecode} {f : Plane → Nat → Byte}
    (ha : s.attached = true) (hin : off.toNat < s.cfg.windowLen.toNat) (hd : s.decodeWrite off.toNat v = .ok w)
    (hf : ∀ q o, (s.commitBytes w.bytes).planeRead q o = f q o) :
    WritesPlanes (.mmioW off [v]) s (s.draws + w.draws) f := by
  have byte : s.mmioByteWrite off.toNat v =
      .ok { s.commitBytes w.bytes with draws := s.draws + w.draws } := by
    simp only [State.mmioByteWrite, hd]
  have commit := (commitBytes_same w.bytes s).1.eq
  refine ⟨(s.commitBytes w.bytes).planes, ?_, fun q o => ?_⟩
  · rw [exec_mmioW_of_bytes ha ((mmioWriteBytes_cons_inWindow hin byte).trans rfl), commit]
    rfl
  · rw [← hf, commit]
    rfl

/-- A one-byte write decoded as one byte for each enabled plane (R229, R230, R231). -/
theorem writesPlanes_enabledBytes {s : State} {off : Offset} {v : Byte} {r n : Nat} {f : Plane → Byte}
    (ha : s.attached = true) (hp : PlanesInv s.planes) (hin : off.toNat < s.cfg.windowLen.toNat)
    (hd : s.decodeWrite off.toNat v = .ok { bytes := s.enabledBytes r f, draws := n }) :
    WritesPlanes (.mmioW off [v]) s (s.draws + n) fun q o =>
      if o = r ∧ s.mapMask.getLsbD q.val = true ∧ r < s.params.planeSize then f q else s.planeRead q o :=
  writesPlanes_of_decodeWrite ha hin hd (planeRead_enabledBytes s hp r f)

/-- Settles O35: both raw modes store the byte in the plane `rawPlane` names, and the hypothesis on `p` says that it is
that one. -/
theorem rawModesStoreTheByte : Obligations.RawModesStoreTheByte := by
  intro s off v r p ha hs ⟨hin, hr⟩ hmode
  have raw : s.chain4 = true ∨ s.oddEven = true := hmode.imp And.left fun ⟨_, ho, _⟩ => ho
  have plane : p = rawPlane s r := by
    refine Fin.ext (Eq.trans ?_ (rawPlane_val s r).symm)
    obtain ⟨hc, hp⟩ | ⟨hc, -, hp⟩ := hmode
    · rw [if_pos hc, hp]
    · rw [if_neg (by simp [hc]), hp]
  subst plane
  exact writesPlanes_of_decodeWrite ha hin (decodeWrite_raw hr raw v) (planeRead_gatedByte s hs r (rawPlane s r) v)

/-! ### Write mode 0 -/

theorem srMux_bitwise {s : State} (h : s.params.setReset = .bitwise) (p : Plane) (v : Byte) :
    s.srMux p v = (s.enableSetReset &&& s.setReset) ||| (~~~s.enableSetReset &&& v) := by
  simp only [State.srMux, h]

theorem srMux_perPlane {s : State} (h : s.params.setReset = .perPlane) (p : Plane) (v : Byte) :
    s.srMux p v =
      if s.enableSetReset.getLsbD p = true then (if s.setReset.getLsbD p = true then 0xFF else 0x00) else v := by
  simp only [State.srMux, h]

/-- Settles O36: in both Set/Reset modes each enabled plane takes the mux under the bit mask over its own byte. -/
theorem planarMode0Write : Obligations.PlanarMode0Write := by
  intro s off v r ha hs ⟨hin, hr⟩ hc ho hm
  have writes := writesPlanes_enabledBytes ha hs hin (decodeWrite_mode0 hr hc ho hm v)
  refine ⟨fun hsr => ?_, fun hsr => ?_⟩
  · simp only [srMux_bitwise hsr] at writes
    exact writes
  · simp only [srMux_perPlane hsr] at writes
    exact writes

/-! ### Write modes 1 to 3 -/

/-- R230 under REFUSE, for one byte in the map. -/
theorem mmioByteWrite_refused {s : State} {a r : Nat} (hr : s.rebase a = some r) (hm : PlanarMode123 s)
    (hp : s.params.writeMode123 = .refuse) (v : Byte) :
    s.mmioByteWrite a v = .error .writeModeUnimplemented := by
  simp only [State.mmioByteWrite, decodeWrite_mode123 hr hm, mode123Write_refuse hp]

theorem mmioWriteBytes_cons_refused {s : State} {a : Nat} {v : Byte} {why : Refusal}
    (ha : a < s.cfg.windowLen.toNat) (h : s.mmioByteWrite a v = .error why) (vs : List Byte) :
    s.mmioWriteBytes a (v :: vs) = .error why := by
  simp only [State.mmioWriteBytes, if_neg (Nat.not_le.2 ha), h]

/-- The first byte in the map is refused, and those before it changed nothing, so that the mode is still the same. -/
theorem mmioWriteBytes_refused {s : State} {a k r : Nat} {bs : List Byte} (hm : PlanarMode123 s)
    (hp : s.params.writeMode123 = .refuse) (hk : k < bs.length) (hin : a + k < s.cfg.windowLen.toNat)
    (hr : s.rebase (a + k) = some r) : s.mmioWriteBytes a bs = .error .writeModeUnimplemented := by
  induction bs generalizing a k with
  | nil => cases hk
  | cons v vs ih =>
    have here : a < s.cfg.windowLen.toNat := by omega
    cases first : s.rebase a with
    | some r₀ => exact mmioWriteBytes_cons_refused here (mmioByteWrite_refused first hm hp v) vs
    | none =>
      cases k with
      | zero => cases first.symm.trans hr
      | succ k =>
        rw [mmioWriteBytes_cons_inWindow here (mmioByteWrite_outOfMap first v)]
        rw [← Nat.succ_add_eq_add_succ] at hin hr
        exact ih (Nat.lt_of_succ_lt_succ hk) hin hr

theorem exec_mmioW_refused_of_bytes {s : State} {off : Offset} {bs : List Byte} {why : Refusal}
    (ha : s.attached = true) (h : s.mmioWriteBytes off.toNat bs = .error why) :
    exec (.mmioW off bs) s = .refused why := by
  change execMmioW off bs s = _
  unfold execMmioW
  rw [if_pos ha, h]

/-- Settles O37: the first byte in the map refuses the request under REFUSE, DRAW is an enabled-planes write of free
values, and the write mode is no input of a read decode. -/
theorem planarModes123 : Obligations.PlanarModes123 := by
  refine ⟨fun s off bytes k r ha hm hp hk ⟨hin, hr⟩ => ?_, fun s off v r ha hs ⟨hin, hr⟩ hm hp => ?_,
    fun s off r p ha ⟨hin, hr⟩ ⟨hc, ho, _⟩ hplane => ?_⟩
  · exact exec_mmioW_refused_of_bytes ha (mmioWriteBytes_refused hm hp hk hin hr)
  · have decoded := (decodeWrite_mode123 hr hm v).trans (mode123Write_draw hp r v)
    exact writesPlanes_enabledBytes ha hs hin decoded
  · obtain rfl : p = s.planarReadPlane := Fin.ext (hplane.trans (planarReadPlane_val s).symm)
    exact ⟨_, execMmioR_one ha hin (decodeRead_planar hr hc ho)⟩

/-! ### Reads -/

/-- Settles O41: reads and writes of the raw modes both go to `rawPlane`, and planar reads to the selected plane. -/
theorem readDecode : Obligations.ReadDecode := by
  refine fun s a => ⟨decodeRead_outOfMap, fun r hr => ?_, fun v w b hm hw hb => ?_⟩
  · by_cases hc : s.chain4 = true
    · exact ⟨_, decodeRead_raw hr (.inl hc), by rw [rawPlane_val, if_pos hc, if_pos hc]⟩
    · by_cases ho : s.oddEven = true
      · exact ⟨_, decodeRead_raw hr (.inr ho), by rw [rawPlane_val, if_neg hc, if_neg hc, if_pos ho]⟩
      · refine ⟨_, decodeRead_planar hr (by simpa using hc) (by simpa using ho), ?_⟩
        rw [planarReadPlane_val, if_neg hc, if_neg ho]
  · have hr : s.rebase a = some b.offset := (decodeWrite_bytes hw b hb).1
    rw [decodeWrite_raw hr hm] at hw
    cases hw
    rw [decodeRead_raw hr hm, (plane_offset_of_mem_gatedByte hb).1]

end Sys2Proof.Proofs
end

section
/-! MMIO requests: the plane bytes of one write decode (O39), a read request with its status, bytes and latches (O42),
and the requests of no bytes (O48). -/

namespace Sys2Proof.Proofs

open Sys2Proof.Machine Sys2Proof.Laws

/-! ### The plane bytes of one write decode -/

/-- The three shapes of a write decode (R222): nothing, or at the rebased offset one gated byte or one byte for each
enabled plane. -/
theorem decodeWrite_cases {s : State} {a : Nat} {v : Byte} {w : WriteDecode} (h : s.decodeWrite a v = .ok w) :
    w.bytes = [] ∨ ∃ r, s.rebase a = some r ∧
      ((∃ p, w.bytes = s.gatedByte p r v) ∨ ∃ f, w.bytes = s.enabledBytes r f) := by
  cases hr : s.rebase a with
  | none =>
    simp only [State.decodeWrite, hr] at h
    cases h
    exact .inl rfl
  | some r =>
    refine .inr ⟨r, rfl, ?_⟩
    by_cases raw : s.chain4 = true ∨ s.oddEven = true
    · rw [decodeWrite_raw hr raw] at h
      cases h
      exact .inl ⟨_, rfl⟩
    · have hc : s.chain4 = false := by simpa using fun hc => raw (.inl hc)
      have ho : s.oddEven = false := by simpa using fun ho => raw (.inr ho)
      refine .inr ?_
      by_cases hm : s.writeMode = 0
      · rw [decodeWrite_mode0 hr hc ho hm] at h
        cases h
        exact ⟨_, rfl⟩
      · rw [decodeWrite_mode123 hr ⟨hc, ho, hm⟩] at h
        unfold State.mode123Write at h
        split at h
        · cases h
        · cases h; exact ⟨_, rfl⟩
        · cases h; exact ⟨_, rfl⟩

/-- The planes in the order in which a planar write goes through them (R229). -/
def allPlanes : List Plane := [0, 1, 2, 3]

theorem mem_allPlanes : ∀ p : Plane, p ∈ allPlanes := by decide

theorem gatedByte_planes_sublist (s : State) (p : Plane) (r : Nat) (v : Byte) :
    ((s.gatedByte p r v).map PlaneByte.plane).Sublist allPlanes := by
  unfold State.gatedByte
  split
  · exact List.singleton_sublist.2 (mem_allPlanes p)
  · exact List.nil_sublist allPlanes

theorem enabledBytes_planes_sublist (s : State) (r : Nat) (f : Plane → Byte) :
    ((s.enabledBytes r f).map PlaneByte.plane).Sublist allPlanes := by
  have planes : (s.enabledBytes r f).map PlaneByte.plane = allPlanes.filter fun p => s.planeEnabled p := by
    unfold State.enabledBytes
    rw [List.map_map]
    exact List.map_id _
  rw [planes]
  exact List.filter_sublist

/-- R232: the plane bytes of one write decode take each of the four planes at most once. -/
theorem decodeWrite_planes_sublist {s : State} {a : Nat} {v : Byte} {w : WriteDecode}
    (h : s.decodeWrite a v = .ok w) : (w.bytes.map PlaneByte.plane).Sublist allPlanes := by
  obtain hw | ⟨r, -, ⟨p, hw⟩ | ⟨f, hw⟩⟩ := decodeWrite_cases h
  · rw [hw]; exact List.nil_sublist allPlanes
  · rw [hw]; exact gatedByte_planes_sublist s p r v
  · rw [hw]; exact enabledBytes_planes_sublist s r f

theorem decodeWrite_planes_nodup {s : State} {a : Nat} {v : Byte} {w : WriteDecode}
    (h : s.decodeWrite a v = .ok w) : (w.bytes.map PlaneByte.plane).Nodup :=
  List.Pairwise.sublist (decodeWrite_planes_sublist h) (by decide : allPlanes.Nodup)

theorem decodeWrite_bytes_length_le {s : State} {a : Nat} {v : Byte} {w : WriteDecode}
    (h : s.decodeWrite a v = .ok w) : w.bytes.length ≤ 4 := by
  rw [← List.length_map PlaneByte.plane]
  exact (decodeWrite_planes_sublist h).length_le

theorem mmioByteWrite_of_decodeWrite {s : State} {a : Nat} {v : Byte} {w : WriteDecode}
    (h : s.decodeWrite a v = .ok w) :
    s.mmioByteWrite a v = .ok { s.commitBytes w.bytes with draws := s.draws + w.draws } := by
  simp only [State.mmioByteWrite, h]

/-- Settles O39: a decode is empty, one gated byte or one byte per enabled plane, so it takes each plane at most once,
and the commit stores each byte where no other one goes. -/
theorem writeDecodeAtMostFour : Obligations.WriteDecodeAtMostFour := by
  intro s a v w hs hw
  have distinct := decodeWrite_planes_nodup hw
  refine ⟨decodeWrite_bytes_length_le hw, distinct, ⟨(s.rebase a).getD 0, fun b hb => ?_⟩,
    _, mmioByteWrite_of_decodeWrite hw, fun b hb ho => ?_, fun q o hn => ?_⟩
  · rw [(decodeWrite_bytes hw b hb).1]
    exact ⟨rfl, rfl⟩
  · exact planeRead_commitBytes_mem w.bytes s distinct hs hb ho
  · exact planeRead_commitBytes_other w.bytes s hn

/-! ### The word of a request -/

/-- An MMIO word is its fixed bits, with the offset in the low 29 (R117). -/
theorem mmioWord_eq_or (dir : BitVec 1) (off : Offset) :
    mmioWord dir off = (1#2 ++ dir ++ 0#29) ||| off.setWidth 32 := by
  unfold mmioWord
  rw [BitVec.append_def, BitVec.append_def _ 0#29]
  simp [BitVec.setWidth'_eq]

/-! ### The status of a request -/

/-- The first address at or beyond the window's end among the `n` from `a` on, if there is one (R93). -/
def firstBeyond (s : State) (a n : Nat) : Option Nat :=
  if n = 0 ∨ a + n ≤ s.cfg.windowLen.toNat then none else some (max a s.cfg.windowLen.toNat)

/-- It is what the status of R301 reports. -/
theorem mmioStatus_firstBeyond (s : State) (off : Offset) (n : Nat) :
    mmioStatus (firstBeyond s off.toNat n) = rangeStatus s off n := by
  unfold firstBeyond rangeStatus
  split <;> rfl

theorem firstBeyond_succ_beyond {s : State} {a : Nat} (n : Nat) (ha : s.cfg.windowLen.toNat ≤ a) :
    firstBeyond s a (n + 1) = some a := by
  rw [firstBeyond, if_neg (by omega), Nat.max_eq_left ha]

/-- An address in the window is not the first beyond it. -/
theorem firstBeyond_succ_inWindow {s : State} {a : Nat} (n : Nat) (ha : a < s.cfg.windowLen.toNat) :
    firstBeyond s a (n + 1) = firstBeyond s (a + 1) n := by
  unfold firstBeyond
  split <;> split
  · rfl
  · omega
  · omega
  · rw [Nat.max_eq_right (by omega), Nat.max_eq_right (by omega)]

/-- A read reports the first address beyond the window (R93, R251). -/
theorem mmioReadBytes_first (s : State) (a n : Nat) : (s.mmioReadBytes a n).2.1 = firstBeyond s a n := by
  induction n generalizing s a with
  | zero => rfl
  | succ n ih =>
    by_cases ha : s.cfg.windowLen.toNat ≤ a
    · rw [mmioReadBytes_succ_beyond n ha, firstBeyond_succ_beyond n ha]
    · have ha := Nat.not_le.1 ha
      rw [mmioReadBytes_succ_inWindow n ha, firstBeyond_succ_inWindow n ha, ih, firstBeyond, mmioByteRead_cfg]
      rfl

/-! ### The bytes of a read -/

theorem mmioByteRead_of_decodeRead {s : State} {a o : Nat} {p : Plane} (h : s.decodeRead a = some (p, o)) :
    s.mmioByteRead a = (s.planeRead p o, s.loadLatches o) := by
  simp only [State.mmioByteRead, h]

theorem mmioReadBytes_get_of_decodeRead {s : State} {a n k o : Nat} {p : Plane} (hk : k < n)
    (hin : a + k < s.cfg.windowLen.toNat) (hd : s.decodeRead (a + k) = some (p, o)) :
    (s.mmioReadBytes a n).1[k]? = some (s.planeRead p o) := by
  rw [mmioReadBytes_get n s a k hk, if_neg (Nat.not_le.2 hin), mmioByteRead_of_decodeRead hd]

/-- A byte outside the window or the map reads as 0x00 (R93, R94). -/
theorem mmioReadBytes_get_unmapped {s : State} {a n k : Nat} (hk : k < n)
    (hout : a + k < s.cfg.windowLen.toNat → s.rebase (a + k) = none) :
    (s.mmioReadBytes a n).1[k]? = some 0x00 := by
  rw [mmioReadBytes_get n s a k hk]
  split
  · rfl
  · next hin => rw [mmioByteRead_outOfMap (hout (Nat.not_le.1 hin))]

/-! ### The latches after a read -/

/-- A byte in the map loads the latches, whatever plane its mode selects (R236, R254). -/
theorem mmioByteRead_loads {s : State} {a r : Nat} (hr : s.rebase a = some r) :
    (s.mmioByteRead a).2 = s.loadLatches r := by
  obtain ⟨p, hd, -⟩ := (readDecode s a).2.1 r hr
  rw [mmioByteRead_of_decodeRead hd]

/-- Bytes that are all outside the window or the map leave the state as it is. -/
theorem mmioReadBytes_unmapped {s : State} {a n : Nat}
    (hout : ∀ k, k < n → a + k < s.cfg.windowLen.toNat → s.rebase (a + k) = none) :
    (s.mmioReadBytes a n).2.2 = s := by
  induction n generalizing a with
  | zero => rfl
  | succ n ih =>
    obtain ⟨here, later⟩ := Nat.forall_lt_succ_left.1 hout
    have others : (s.mmioReadBytes (a + 1) n).2.2 = s := ih fun k hk => by
      rw [Nat.succ_add_eq_add_succ]
      exact later k hk
    by_cases ha : s.cfg.windowLen.toNat ≤ a
    · rw [mmioReadBytes_succ_beyond n ha]
      exact others
    · have ha := Nat.not_le.1 ha
      have outOfMap : s.rebase a = none := here ha
      rw [mmioReadBytes_succ_inWindow n ha, mmioByteRead_outOfMap outOfMap]
      exact others

/-- The last byte in the map decides the latches: it loads them whatever the bytes before it left there, and the bytes
after it change nothing (R251). -/
theorem mmioReadBytes_loads_last {s : State} {a n k r : Nat} (hk : k < n) (hin : a + k < s.cfg.windowLen.toNat)
    (hr : s.rebase (a + k) = some r)
    (hlast : ∀ j, k < j → j < n → a + j < s.cfg.windowLen.toNat → s.rebase (a + j) = none) :
    (s.mmioReadBytes a n).2.2 = s.loadLatches r := by
  obtain ⟨m, rfl⟩ : ∃ m, n = k + (m + 1) := ⟨n - (k + 1), by omega⟩
  obtain ⟨l, before⟩ := mmioReadBytes_state k s a
  have here : (State.mmioByteRead { s with latch := l } (a + k)).2 = s.loadLatches r := mmioByteRead_loads hr
  rw [mmioReadBytes_append, before]
  dsimp only
  rw [mmioReadBytes_succ_inWindow (s := { s with latch := l }) m hin, here]
  refine mmioReadBytes_unmapped (s := s.loadLatches r) fun j hj => ?_
  rw [Nat.add_assoc, Nat.add_assoc]
  exact hlast (k + (1 + j)) (by omega) (by omega)

/-! ### Whole requests -/

/-- No byte of the request at index `k` reaches the planes: if it is in the window, it is outside the map. -/
theorem rebase_none_of_not_reaches {s : State} {off : Offset} {k : Nat} (h : ∀ r, ¬ Reaches s off k r)
    (hin : off.toNat + k < s.cfg.windowLen.toNat) : s.rebase (off.toNat + k) = none :=
  Option.eq_none_iff_forall_ne_some.2 fun r hr => h r ⟨hin, hr⟩

/-- Settles O42: the bytes are read one by one without regard to the latches, which the last one in the map loads. -/
theorem mmioReadRequest : Obligations.MmioReadRequest := by
  refine ⟨fun off len => ?_, fun s off len ha => if_neg (by simp [ha]), fun s off len ha => ?_⟩
  · have word : 0x40000000 ||| off.setWidth 32 = mmioWord 0 off := (mmioWord_eq_or 0 off).symm
    rw [word]
    exact decode_encodeMmioR off len
  obtain ⟨l, after⟩ := mmioReadBytes_state len s off.toNat
  refine ⟨(s.mmioReadBytes off.toNat len).1, l, ?_, mmioReadBytes_length len s off.toNat,
    fun k p r hk hin hd => mmioReadBytes_get_of_decodeRead hk hin hd,
    fun k hk hout => mmioReadBytes_get_unmapped hk (rebase_none_of_not_reaches hout), ?_, ?_⟩
  · rw [exec_mmioR_attached off len ha, after, mmioReadBytes_first, mmioStatus_firstBeyond]
    rfl
  · rintro k r hk ⟨hin, hr⟩ hlast q
    have loaded := mmioReadBytes_loads_last hk hin hr fun j hkj hj =>
      rebase_none_of_not_reaches fun r' => hlast j r' hkj hj
    have latches : l = Vector.ofFn fun q => s.planeRead q r := congrArg State.latch (after.symm.trans loaded)
    simp [latches]
  · intro hout
    have kept := mmioReadBytes_unmapped fun k hk => rebase_none_of_not_reaches fun r => hout k r hk
    exact congrArg State.latch (after.symm.trans kept)

/-- Settles O48: the loop over no bytes answers the state it was given and reports no offset. -/
theorem zeroLengthMmio : Obligations.ZeroLengthMmio :=
  fun _ off ha => ⟨exec_mmioW_of_bytes (bs := []) ha rfl, exec_mmioR_attached off 0 ha⟩

end Sys2Proof.Proofs
end

section
/-! The host's requests: the attach with its reset values (O51), the failed attach (O52), the detach (O53) and the
diagnostic read (O55). -/

namespace Sys2Proof.Proofs

open Sys2Proof.Machine Sys2Proof.Laws

/-! ### What a detached block answers -/

/-- R140, R250 and R251 alike: the guest's requests ask for the attachment before anything else. -/
theorem exec_guest_detached {i : Instr} {s : State} (hi : i.isGuest = true) (ha : s.attached = false) :
    exec i s = .refused .notAttached := by
  cases i with
  | inCrtiMono z | inCrtiColour z | inCrtdMono z | inCrtdColour z | inSeqi z | inSeqd z | inGri z | inGrd z
  | inAttr z | inAttrd z | inDacri z | inDacwi z | inDacd z | inSt0 z | inMiscr z | inFeatr z | inSt1Mono z
  | inSt1Colour z | inEna z | inNone _ z =>
    exact ioRead_detached _ _ z s ha
  | outCrtiMono d | outCrtiColour d | outCrtdMono d | outCrtdColour d | outSeqi d | outSeqd d | outGri d | outGrd d
  | outAttr d | outAttrd d | outDacri d | outDacwi d | outDacd d | outMisc d | outMiscr d | outFeatr d | outFeatMono d
  | outFeatColour d | outEna d | outNone _ d =>
    exact ioWrite_detached _ _ d s ha
  | mmioW _ _ | mmioR _ _ => exact if_neg (by simp [ha])
  | hostAttach _ _ _ | hostDetach | hostDiag => cases hi

theorem exec_hostDiag_detached {s : State} (ha : s.attached = false) : exec .hostDiag s = .refused .notAttached :=
  if_neg (by simp [ha])

theorem exec_hostDetach_detached {s : State} (ha : s.attached = false) :
    exec .hostDetach s = .next (s.respond none .ok) :=
  if_neg (by simp [ha])

/-- A failed attach changes the response alone (R261). -/
theorem exec_hostAttach_failed {s : State} (b l : BitVec 32) (ha : s.attached = false) :
    exec (.hostAttach b l false) s = .next (s.respond none .configurationError) :=
  execHostAttach_detached b l false ha

/-- A successful attach is the reset (R260, R330). -/
theorem exec_hostAttach_succeeded {s : State} (b l : BitVec 32) (ha : s.attached = false) :
    exec (.hostAttach b l true) s = .next ((s.attachReset b l).respond none .ok) :=
  execHostAttach_detached b l true ha

/-! ### What an attached block answers -/

theorem exec_hostAttach_attached {s : State} (b l : BitVec 32) (ok : Bool) (ha : s.attached = true) :
    exec (.hostAttach b l ok) s = .refused .alreadyAttached :=
  if_pos ha

theorem exec_hostDiag_attached {s : State} (ha : s.attached = true) :
    exec .hostDiag s = .next (s.respond (some (.diag s.dac.dacState)) .ok) :=
  if_pos ha

/-! ### The requests -/

/-- Settles O51: attached, the refusal; detached, the host's draw chooses between the response alone and the reset, whose
elements are the zero banks, latch and palette written out. -/
theorem attachResetsEverything : Obligations.AttachResetsEverything := by
  refine ⟨fun base length ok => ?_, fun s base length ok ha => exec_hostAttach_attached base length ok ha,
    fun s base length ha => exec_hostAttach_failed base length ha,
    fun s base length ha => exec_hostAttach_succeeded base length ha⟩
  exact (decode_hostWord (op := 0x01) rfl).trans (if_pos rfl)

/-- Settles O52: the response leaves `attached` false, so what holds of every detached block holds after the failure. -/
theorem failedAttach : Obligations.FailedAttach := by
  intro s base length ha
  have still : (s.respond none .configurationError).attached = false := (respond_attached s _ _).trans ha
  exact ⟨_, exec_hostAttach_failed base length ha, rfl, still, fun i hi => exec_guest_detached hi still,
    fun base' length' => ⟨_, exec_hostAttach_succeeded base' length' still, rfl⟩⟩

/-- Settles O53: an attached block is discarded, a detached one only responds. -/
theorem detachAlwaysSucceeds : Obligations.DetachAlwaysSucceeds := by
  refine ⟨?_, fun s => ?_, fun s ha => exec_hostDetach_detached ha⟩
  · exact (decode_hostWord (op := 0x02) rfl).trans rfl
  · cases ha : s.attached with
    | true => exact ⟨_, exec_hostDetach_attached ha, rfl, rfl, rfl, rfl, rfl⟩
    | false => exact ⟨_, exec_hostDetach_detached ha, ha, rfl, rfl, rfl, rfl⟩

/-- Settles O55: the marker is the data of the response, and the response is all that changes. -/
theorem diagReadsMarker : Obligations.DiagReadsMarker :=
  ⟨(decode_hostWord (op := 0x03) rfl).trans rfl, fun _ ha => exec_hostDiag_detached ha,
    fun _ ha => exec_hostDiag_attached ha⟩

end Sys2Proof.Proofs
end

section
/-! The request words: the round trip through the encoder (O1) and the example words (O4); and the step, which runs the
first pending request (O5), or waits or refuses it (O6). -/

namespace Sys2Proof.Proofs

open Sys2Proof.Machine Sys2Proof.Laws

/-! ### The words -/

/-- A well-formed IN.NONE is at a port that no row lists. -/
theorem not_mem_mappedPorts_of_wellFormed_inNone {port : Port} {size : IoSize}
    (h : WellFormed (.inNone port size) = true) : port ∉ mappedPorts := by
  simpa [WellFormed] using h

/-- The same of OUT.NONE. -/
theorem not_mem_mappedPorts_of_wellFormed_outNone {port : Port} {d : IoData}
    (h : WellFormed (.outNone port d) = true) : port ∉ mappedPorts := by
  simpa [WellFormed] using h

/-- Settles O1: each listed port selects its own row of the IN and OUT columns, the ports of IN.NONE and OUT.NONE fall
through them, and the other formats carry their operands. -/
theorem decodeEncodeRoundTrip : Obligations.DecodeEncodeRoundTrip := by
  intro i hi
  cases i with
  | inCrtiMono z | inCrtiColour z | inCrtdMono z | inCrtdColour z | inSeqi z | inSeqd z | inGri z | inGrd z
  | inAttr z | inAttrd z | inDacri z | inDacwi z | inDacd z | inSt0 z | inMiscr z | inFeatr z | inSt1Mono z
  | inSt1Colour z | inEna z =>
    exact decode_encodeIn _ z
  | outCrtiMono d | outCrtiColour d | outCrtdMono d | outCrtdColour d | outSeqi d | outSeqd d | outGri d | outGrd d
  | outAttr d | outAttrd d | outDacri d | outDacwi d | outDacd d | outMisc d | outMiscr d | outFeatr d | outFeatMono d
  | outFeatColour d | outEna d =>
    exact decode_encodeOut _ d
  | inNone port z =>
    rw [encode, decode_encodeIn, decodeIn_of_unmapped (not_mem_mappedPorts_of_wellFormed_inNone hi)]
  | outNone port d =>
    rw [encode, decode_encodeOut, decodeOut_of_unmapped (not_mem_mappedPorts_of_wellFormed_outNone hi)]
  | mmioW off bytes => exact decode_encodeMmioW off bytes
  | mmioR off len => exact decode_encodeMmioR off len
  | hostAttach b l ok => exact (decode_hostWord (op := 0x01) rfl).trans (if_pos rfl)
  | hostDetach => exact (decode_hostWord (op := 0x02) rfl).trans rfl
  | hostDiag => exact (decode_hostWord (op := 0x03) rfl).trans rfl

/-- Settles O4: the words are closed, so the decoder is run on each; that of HOST.ATTACH has a free draw. -/
theorem exampleWordsDecode : Obligations.ExampleWordsDecode :=
  ⟨rfl, rfl, rfl, rfl, rfl, rfl, rfl, fun _ => (decode_hostWord (op := 0x01) rfl).trans (if_pos rfl), rfl, rfl⟩

/-! ### The step -/

theorem fetch_of_decode {s : State} {a : Arrival} {rest : List Arrival} {i : Instr} (hq : s.requests = a :: rest)
    (hd : decode a.req = .ok i) : s.fetch = if a.overlapped = true then .overlap else .run i rest := by
  simp only [State.fetch, hq, hd]

/-- Everything a step can answer with a next state: it waits, or it runs the operation of the first pending request. -/
theorem step_cases {s t : State} (h : step s = .next t) :
    t = s ∨ ∃ i rest, exec i (s.accept rest) = .next t := by
  unfold step at h
  split at h
  · cases h; exact .inl rfl
  · cases h
  · cases h
  · next i rest _ => exact .inr ⟨i, rest, h⟩

/-- Settles O5: without the mark the step finds the operation to run. -/
theorem stepRunsDecodedRequest : Obligations.StepRunsDecodedRequest := by
  intro s a rest i hq hmark hd
  rw [step, fetch_of_decode hq hd, hmark]
  rfl

/-- Settles O6: an empty queue is the waiting step, and the mark goes before the operation. -/
theorem idleWaitsAndOverlapIsRefused : Obligations.IdleWaitsAndOverlapIsRefused := by
  refine ⟨fun s hq => ?_, fun s a rest i hq hmark hd => ?_⟩
  · have idle : s.fetch = .idle := by simp only [State.fetch, hq]
    rw [step, idle]
  · rw [step, fetch_of_decode hq hd, if_pos hmark]

end Sys2Proof.Proofs
end

section
/-! What a request of the guest or HOST.DIAG can do, said once (`Effect`); from it, what changes the palette (O29), the
status bytes (O33) and the configuration (O57), and the refusal while detached (O7). -/

namespace Sys2Proof.Proofs

open Sys2Proof.Machine Sys2Proof.Laws

/-- Settles O7: attachment is the first thing that each of these requests asks for. -/
theorem detachedBlockRefusesRequests : Obligations.DetachedBlockRefusesRequests := by
  rintro i s ha (hi | rfl)
  · exact exec_guest_detached hi ha
  · exact exec_hostDiag_detached ha

/-! ### The effects -/

/-- What a request of the guest, or HOST.DIAG, does to the state of an attached block before it responds: one of the
register operations, a change of plane bytes, or a load of the latches. -/
inductive Effect (i : Instr) (s : State) : State → Prop
  | none : Effect i s s
  | crt (b : RegisterBank) : Effect i s { s with crt := b }
  | seq (b : RegisterBank) : Effect i s { s with seq := b }
  | gr (b : RegisterBank) : Effect i s { s with gr := b }
  | attrWrite (v : Byte) : Effect i s (opOutAttr v s)
  | attrReset : Effect i s (opInSt1 s).2
  | dacReadIndex (v : Byte) : Effect i s (opOutDacri v s)
  | dacWriteIndex (v : Byte) : Effect i s (opOutDacwi v s)
  | dacRead : Effect i s (opInDacd s).2
  | dacWrite (d : IoData) (hi : i = .outDacd d) : Effect i s (opOutDacd (dataByte d) s)
  | miscOutput (v : Byte) : Effect i s (opOutMisc v s)
  | miscFeature (v : Byte) : Effect i s (opOutFeat v s)
  | planes (t : State) (same : SameButPlanes s t) (wf : PlanesInv s.planes → PlanesInv t.planes) : Effect i s t
  | latch (l : Vector Byte 4) : Effect i s { s with latch := l }

/-- The request completes in an attached block: it has an effect and then responds. -/
def Completes (i : Instr) (s t : State) : Prop :=
  s.attached = true ∧ ∃ u d st, Effect i s u ∧ t = u.respond d st

/-- An I/O read has its operation's effect, or none (R142, R143). -/
theorem ioRead_completes {i : Instr} {port : Port} {op : State → Byte × State} {size : IoSize} {s t : State}
    (hop : Effect i s (op s).2) (h : ioRead port op size s = .next t) : Completes i s t := by
  obtain ⟨ha, ⟨-, rfl⟩ | ⟨-, rfl⟩⟩ := ioRead_cases h
  · exact ⟨ha, _, _, _, hop, rfl⟩
  · exact ⟨ha, _, _, _, .none, rfl⟩

/-- The same of an I/O write. -/
theorem ioWrite_completes {i : Instr} {port : Port} {op : Byte → State → State} {d : IoData} {s t : State}
    (hop : Effect i s (op (dataByte d) s)) (h : ioWrite port op d s = .next t) : Completes i s t := by
  obtain ⟨ha, ⟨-, rfl⟩ | ⟨-, rfl⟩⟩ := ioWrite_cases h
  · exact ⟨ha, _, _, _, hop, rfl⟩
  · exact ⟨ha, _, _, _, .none, rfl⟩

/-- Everything a request of the guest, or HOST.DIAG, can answer with a next state. -/
theorem exec_completes {i : Instr} {s t : State} (hi : i.isGuest = true ∨ i = .hostDiag) (h : exec i s = .next t) :
    Completes i s t := by
  cases i with
  | hostAttach _ _ _ | hostDetach => obtain hg | hg := hi <;> cases hg
  | inCrtiMono z | inCrtiColour z | inCrtdMono z | inCrtdColour z | inSeqi z | inSeqd z | inGri z | inGrd z
  | inAttr z | inAttrd z | inDacri z | inDacwi z | inSt0 z | inMiscr z | inFeatr z | inEna z | inNone _ z =>
    exact ioRead_completes .none h
  | inSt1Mono z | inSt1Colour z => exact ioRead_completes .attrReset h
  | inDacd z => exact ioRead_completes .dacRead h
  | outAttrd d | outMiscr d | outFeatr d | outEna d | outNone _ d => exact ioWrite_completes .none h
  | outCrtiMono d | outCrtiColour d | outCrtdMono d | outCrtdColour d => exact ioWrite_completes (.crt _) h
  | outSeqi d | outSeqd d => exact ioWrite_completes (.seq _) h
  | outGri d | outGrd d => exact ioWrite_completes (.gr _) h
  | outAttr d => exact ioWrite_completes (.attrWrite _) h
  | outDacri d => exact ioWrite_completes (.dacReadIndex _) h
  | outDacwi d => exact ioWrite_completes (.dacWriteIndex _) h
  | outDacd d => exact ioWrite_completes (.dacWrite d rfl) h
  | outMisc d => exact ioWrite_completes (.miscOutput _) h
  | outFeatMono d | outFeatColour d => exact ioWrite_completes (.miscFeature _) h
  | mmioW off bytes =>
    obtain ⟨ha, u, first, hu, same, rfl⟩ := execMmioW_cases h
    exact ⟨ha, u, _, _, .planes u same (mmioWriteBytes_wf hu), rfl⟩
  | mmioR off len =>
    obtain ⟨ha, l, bytes, first, -, rfl⟩ := execMmioR_cases h
    exact ⟨ha, _, _, _, .latch l, rfl⟩
  | hostDiag =>
    obtain ⟨ha, rfl⟩ := execHostDiag_cases h
    exact ⟨ha, s, _, _, .none, rfl⟩

/-! ### Frames -/

/-- No effect reaches the window, the lifecycle, the parameters or the queue (R46, R311). -/
theorem Effect.keeps_configuration {i : Instr} {s u : State} (h : Effect i s u) :
    u.cfg = s.cfg ∧ u.attached = s.attached ∧ u.params = s.params ∧ u.requests = s.requests := by
  cases h with
  | planes _ same _ => exact ⟨same.cfg, same.attached, same.params, same.requests⟩
  | attrWrite v => exact ⟨opOutAttr_cfg s v, opOutAttr_attached s v, opOutAttr_params s v, opOutAttr_requests s v⟩
  | _ => exact ⟨rfl, rfl, rfl, rfl⟩

/-- Settles O57: the response is no part of the configuration either. -/
theorem guestKeepsConfiguration : Obligations.GuestKeepsConfiguration := by
  intro i s t hi h
  obtain ⟨-, u, d, st, effect, rfl⟩ := exec_completes (.inl hi) h
  exact effect.keeps_configuration

/-- The misc registers that a request can write are output and feature control (R42, D14). -/
theorem Effect.keeps_status {i : Instr} {s u : State} (h : Effect i s u) :
    u.misc.status0 = s.misc.status0 ∧ u.misc.status1 = s.misc.status1 := by
  cases h with
  | planes _ same _ => rw [same.misc]; exact ⟨rfl, rfl⟩
  | attrWrite v => rw [opOutAttr_misc]; exact ⟨rfl, rfl⟩
  | _ => exact ⟨rfl, rfl⟩

/-- A row of the opcode table is the guest's, HOST.DIAG, or one of the two that attach and detach. -/
theorem guest_or_diag_or_lifecycle (i : Instr) :
    (i.isGuest = true ∨ i = .hostDiag) ∨ (∃ b l ok, i = .hostAttach b l ok) ∨ i = .hostDetach := by
  cases i with
  | hostAttach b l ok => exact .inr (.inl ⟨b, l, ok, rfl⟩)
  | hostDetach => exact .inr (.inr rfl)
  | hostDiag => exact .inl (.inr rfl)
  | _ => exact .inl (.inl rfl)

/-- Settles O33: attach and detach put the zero registers in place or change the response alone, and no other request
writes a status byte. -/
theorem statusBytesNeverWritten : Obligations.StatusBytesNeverWritten := by
  intro i s t h
  have kept (hi : i.isGuest = true ∨ i = .hostDiag) :
      t.misc.status0 = s.misc.status0 ∧ t.misc.status1 = s.misc.status1 := by
    obtain ⟨-, u, d, st, effect, rfl⟩ := exec_completes hi h
    exact effect.keeps_status
  refine ⟨kept, fun h0 h1 => ?_⟩
  obtain hi | ⟨b, l, ok, rfl⟩ | rfl := guest_or_diag_or_lifecycle i
  · obtain ⟨e0, e1⟩ := kept hi
    exact ⟨e0.trans h0, e1.trans h1⟩
  · obtain ⟨-, ⟨-, rfl⟩ | ⟨-, rfl⟩⟩ := execHostAttach_cases h
    · exact ⟨rfl, rfl⟩
    · exact ⟨h0, h1⟩
  · obtain ⟨-, rfl⟩ | ⟨-, rfl⟩ := execHostDetach_cases h
    · exact ⟨rfl, rfl⟩
    · exact ⟨h0, h1⟩

/-! ### The palette -/

theorem writeComponent_palette (d : DacPalette) (v : Byte) :
    (d.writeComponent v).palette =
      if d.subIndex = 2 then
        d.palette.set d.writeIndex.toNat (d.pending.set 2 (v &&& 0x3F)) d.writeIndex.isLt
      else d.palette := by
  by_cases h : d.subIndex = 2
  · rw [writeComponent_commit d v h, if_pos h]
  · rw [writeComponent_partial d v h, if_neg h]

theorem afterRead_palette (d : DacPalette) : d.afterRead.palette = d.palette := by
  rw [afterRead_eq]

/-- A component write that changes an entry is the third of its triplet, and the entry is at the write index (R190). -/
theorem writeComponent_palette_changed {d : DacPalette} {v : Byte} {e : Fin 256}
    (h : (d.writeComponent v).palette[e] ≠ d.palette[e]) : d.subIndex = 2 ∧ e.val = d.writeIndex.toNat := by
  rw [writeComponent_palette] at h
  by_cases third : d.subIndex = 2
  · refine ⟨third, Decidable.byContradiction fun other => h ?_⟩
    rw [if_pos third]
    exact Vector.getElem_set_ne _ _ fun same => other same.symm
  · rw [if_neg third] at h
    exact absurd rfl h

/-- Settles O29: of the effects only a component write reaches the palette. -/
theorem paletteChangesOnThirdComponent : Obligations.PaletteChangesOnThirdComponent := by
  intro i s t e hi h changed
  obtain ⟨-, u, d, st, effect, rfl⟩ := exec_completes hi h
  rw [respond_dac] at changed
  cases effect with
  | dacWrite d hd => exact ⟨⟨d, hd⟩, writeComponent_palette_changed changed⟩
  | dacRead =>
    rw [opInDacd_dac, afterRead_palette] at changed
    exact absurd rfl changed
  | planes _ same _ =>
    rw [same.dac] at changed
    exact absurd rfl changed
  | attrWrite v =>
    rw [opOutAttr_dac] at changed
    exact absurd rfl changed
  | _ => exact absurd rfl changed

end Sys2Proof.Proofs
end

section
/-! The reset values (O58) and the invariant of the block: it holds after reset (O60), and every step keeps it (O59). -/

namespace Sys2Proof.Proofs

open Sys2Proof.Machine Sys2Proof.Laws

/-! ### The reset values -/

@[simp] theorem slot_zero (i : Byte) : RegisterBank.zero.slot i = 0 := Vector.getElem_replicate _

@[simp] theorem attr_zero_data (i : Fin 256) : AttributeLatch.zero.data[i] = 0 := Vector.getElem_replicate _

@[simp] theorem dac_zero_palette (e : Fin 256) (c : Fin 3) : DacPalette.zero.palette[e][c] = 0 := by
  simp [DacPalette.zero]

@[simp] theorem dac_zero_pending (c : Fin 3) : DacPalette.zero.pending[c] = 0 := Vector.getElem_replicate _

/-- Settles O58: the registers are the zero ones, and the window is the legacy one. -/
theorem resetValues : Obligations.ResetValues :=
  ⟨fun i => ⟨slot_zero i, slot_zero i, slot_zero i⟩, ⟨rfl, rfl, rfl⟩, ⟨rfl, rfl, attr_zero_data⟩,
    ⟨dac_zero_palette, rfl, rfl, rfl, dac_zero_pending, rfl⟩, ⟨rfl, rfl, rfl, rfl⟩,
    fun _ => Vector.getElem_replicate _, rfl, rfl, rfl⟩

/-! ### The parts of the invariant at zero -/

theorem attrInv_zero : AttrInv AttributeLatch.zero := by
  refine ⟨rfl, fun i _ => attr_zero_data i, fun i => ?_⟩
  have zero : AttributeLatch.zero.data[i.val] = 0 := Vector.getElem_replicate _
  rw [zero]
  exact BitVec.zero_and

theorem dacInv_zero : DacInv DacPalette.zero := by
  refine ⟨fun e c => ?_, fun c => ?_, .inl rfl⟩
  · rw [dac_zero_palette]; decide
  · rw [dac_zero_pending]; decide

theorem miscInv_zero : MiscInv MiscRegisters.zero := ⟨rfl, rfl, rfl⟩

theorem planesInv_empty : PlanesInv (Vector.replicate 4 []) := by
  intro p
  have empty : (Vector.replicate 4 ([] : Memory))[p] = [] := Vector.getElem_replicate _
  rw [empty]
  rfl

/-- Settles O60: every register is at zero and every plane is empty, and the block is attached. -/
theorem resetMeetsTheInvariant : Obligations.ResetMeetsTheInvariant where
  attr := attrInv_zero
  dac := dacInv_zero
  misc := miscInv_zero
  planes := planesInv_empty
  init := planesInv_empty
  discarded := nofun

/-! ### Attribute latch -/

theorem attrInv_toggle {a : AttributeLatch} (h : AttrInv a) : AttrInv a.toggle := h

theorem attrInv_awaitIndex {a : AttributeLatch} (h : AttrInv a) : AttrInv a.awaitIndex := h

theorem attrInv_writeIndex {a : AttributeLatch} (h : AttrInv a) (v : Byte) : AttrInv (a.writeIndex v) := by
  obtain ⟨-, unused, masked⟩ := h
  refine ⟨?_, unused, masked⟩
  rw [attrWriteIndex_index, BitVec.and_assoc, BitVec.and_self]

/-- The data phase writes one of the first 32 slots, under that slot's mask (R172). -/
theorem attrInv_writeData {a : AttributeLatch} (h : AttrInv a) (v : Byte) : AttrInv (a.writeData v) := by
  obtain ⟨index, unused, masked⟩ := h
  have below : a.selected.toNat < 0x20 := a.selected.isLt
  refine ⟨index, fun i hi => ?_, fun i => ?_⟩
  · rw [attrWriteData_data, Fin.getElem_fin, Vector.getElem_set_ne _ _ (by omega)]
    exact unused i hi
  · rw [attrWriteData_data]
    by_cases same : a.selected.toNat = i.val
    · obtain rfl : i = ⟨a.selected.toNat, below⟩ := Fin.ext same.symm
      rw [Vector.getElem_set_self, BitVec.and_assoc]
      exact congrArg (v &&& ·) BitVec.and_self
    · rw [Vector.getElem_set_ne _ _ same]
      exact masked i

theorem attrInv_opOutAttr {s : State} (h : AttrInv s.attr) (v : Byte) : AttrInv (opOutAttr v s).attr := by
  rw [opOutAttr_attr]
  split
  · exact attrInv_toggle (attrInv_writeData h v)
  · exact attrInv_toggle (attrInv_writeIndex h v)

/-! ### DAC -/

theorem and_3F_le (v : Byte) : v &&& 0x3F ≤ 0x3F := by
  revert v
  decide

theorem dacInv_setReadIndex {d : DacPalette} (h : DacInv d) (v : Byte) : DacInv (d.setReadIndex v) :=
  ⟨h.1, h.2.1, .inr rfl⟩

theorem dacInv_setWriteIndex {d : DacPalette} (h : DacInv d) (v : Byte) : DacInv (d.setWriteIndex v) :=
  ⟨h.1, h.2.1, .inl rfl⟩

theorem dacInv_afterRead {d : DacPalette} (h : DacInv d) : DacInv d.afterRead := by
  rw [afterRead_eq]
  exact h

/-- A masked component keeps the six-bit triplet (R190). -/
theorem pending_set_le {p : Vector Byte 3} (h : ∀ c : Fin 3, p[c] ≤ 0x3F) (i : Fin 3) (v : Byte) (c : Fin 3) :
    (p.set i (v &&& 0x3F))[c] ≤ 0x3F := by
  rw [Fin.getElem_fin, Vector.getElem_set]
  split
  · exact and_3F_le v
  · exact h c

theorem dacInv_writeComponent {d : DacPalette} (h : DacInv d) (v : Byte) : DacInv (d.writeComponent v) := by
  obtain ⟨palette, pending, marker⟩ := h
  by_cases third : d.subIndex = 2
  · rw [writeComponent_commit d v third]
    refine ⟨fun e c => ?_, pending_set_le pending 2 v, marker⟩
    rw [Fin.getElem_fin _ e, Vector.getElem_set]
    split
    · exact pending_set_le pending 2 v c
    · exact palette e c
  · rw [writeComponent_partial d v third]
    exact ⟨palette, pending_set_le pending d.subIndex v, marker⟩

/-! ### Misc registers -/

/-- The mask of R200 clears bit 4. -/
theorem miscInv_output {m : MiscRegisters} (h : MiscInv m) (v : Byte) :
    MiscInv { m with output := v &&& 0xEF } := by
  obtain ⟨status0, status1, -⟩ := h
  refine ⟨status0, status1, ?_⟩
  rw [BitVec.getLsbD_and]
  exact Bool.and_false _

/-! ### Steps -/

/-- What an attached block's effect has to keep; the other parts of the invariant are then as before. -/
theorem inv_of_attached {s t : State} (h : Inv s) (ha : t.attached = true) (hp : t.params = s.params)
    (attr : AttrInv t.attr) (dac : DacInv t.dac) (misc : MiscInv t.misc) (planes : PlanesInv t.planes) : Inv t where
  attr := attr
  dac := dac
  misc := misc
  planes := planes
  init := hp ▸ h.init
  discarded := fun hd => Bool.noConfusion (hd.symm.trans ha)

/-- Each effect keeps the shapes of the registers and planes it reaches, and leaves the others. -/
theorem Effect.keeps_inv {i : Instr} {s u : State} (h : Effect i s u) (hs : Inv s) (ha : s.attached = true) :
    Inv u := by
  obtain ⟨-, hattached, hparams, -⟩ := h.keeps_configuration
  refine inv_of_attached hs (hattached.trans ha) hparams ?_ ?_ ?_ ?_
  · cases h with
    | attrWrite v => exact attrInv_opOutAttr hs.attr v
    | attrReset => exact attrInv_awaitIndex hs.attr
    | planes _ same _ => exact same.attr ▸ hs.attr
    | _ => exact hs.attr
  · cases h with
    | dacReadIndex v => exact dacInv_setReadIndex hs.dac v
    | dacWriteIndex v => exact dacInv_setWriteIndex hs.dac v
    | dacRead => exact dacInv_afterRead hs.dac
    | dacWrite d _ => exact dacInv_writeComponent hs.dac (dataByte d)
    | attrWrite v => exact (opOutAttr_dac s v) ▸ hs.dac
    | planes _ same _ => exact same.dac ▸ hs.dac
    | _ => exact hs.dac
  · cases h with
    | miscOutput v => exact miscInv_output hs.misc v
    | attrWrite v => exact (opOutAttr_misc s v) ▸ hs.misc
    | planes _ same _ => exact same.misc ▸ hs.misc
    | _ => exact hs.misc
  · cases h with
    | attrWrite v => exact (opOutAttr_planes s v) ▸ hs.planes
    | planes _ _ wf => exact wf hs.planes
    | _ => exact hs.planes

/-- The response is no part of the invariant. -/
theorem inv_respond {s : State} (h : Inv s) (d : Option ReadData) (st : Status) : Inv (s.respond d st) :=
  { h with discarded := fun hd => congrArg (State.respond · d st) (h.discarded hd) }

/-- Neither is the queue. -/
theorem inv_accept {s : State} (h : Inv s) (rest : List Arrival) : Inv (s.accept rest) :=
  { h with discarded := fun hd => congrArg (State.accept · rest) (h.discarded hd) }

/-- A reset puts the zero registers and INIT_PLANES in place (R330). -/
theorem inv_attachReset {s : State} (h : Inv s) (b l : BitVec 32) : Inv (s.attachReset b l) :=
  inv_of_attached h rfl rfl attrInv_zero dacInv_zero miscInv_zero h.init

/-- What a detach leaves holds nothing (R55, log entry 7). -/
theorem inv_discard {s : State} (h : Inv s) : Inv s.discard where
  attr := attrInv_zero
  dac := dacInv_zero
  misc := miscInv_zero
  planes := planesInv_empty
  init := h.init
  discarded := fun _ => rfl

/-- Every operation keeps the invariant. -/
theorem exec_keeps_inv {i : Instr} {s t : State} (hs : Inv s) (h : exec i s = .next t) : Inv t := by
  obtain hi | ⟨b, l, ok, rfl⟩ | rfl := guest_or_diag_or_lifecycle i
  · obtain ⟨ha, u, d, st, effect, rfl⟩ := exec_completes hi h
    exact inv_respond (effect.keeps_inv hs ha) d st
  · obtain ⟨-, ⟨-, rfl⟩ | ⟨-, rfl⟩⟩ := execHostAttach_cases h
    · exact inv_respond (inv_attachReset hs b l) none .ok
    · exact inv_respond hs none .configurationError
  · obtain ⟨-, rfl⟩ | ⟨-, rfl⟩ := execHostDetach_cases h
    · exact inv_respond (inv_discard hs) none .ok
    · exact inv_respond hs none .ok

/-- Settles O59: a waiting step changes nothing, and any other is an operation after taking its request. -/
theorem everyStepKeepsTheInvariant : Obligations.EveryStepKeepsTheInvariant := by
  intro s t hs h
  obtain rfl | ⟨i, rest, h⟩ := step_cases h
  · exact hs
  · exact exec_keeps_inv (inv_accept hs rest) h

end Sys2Proof.Proofs
end

section
/-! Register requests in sequence: the slots a bank write reaches (O16), the index and the data read back (O17, O18), and
the attribute port after a status-1 read (O23). -/

namespace Sys2Proof.Proofs

open Sys2Proof.Machine Sys2Proof.Laws

/-! ### One write of a bank -/

/-- A write that is not ignored leaves its operation's state, and a response (R140, R142). -/
theorem ioWrite_runs_inv {port : Port} {op : Byte → State → State} {d : IoData} {s t : State}
    (hr : IoRuns s d.size) (h : ioWrite port op d s = .next t) :
    t = (op (dataByte d) s).respond none (ioStatus port d.size) := by
  obtain ⟨-, ⟨-, ht⟩ | ⟨hn, -⟩⟩ := ioWrite_cases h
  · exact ht
  · exact absurd hr hn

/-- The same of a read. -/
theorem ioRead_runs_inv {port : Port} {op : State → Byte × State} {size : IoSize} {s t : State}
    (hr : IoRuns s size) (h : ioRead port op size s = .next t) :
    t = (op s).2.respond (some (.io (zextByte size (op s).1))) (ioStatus port size) := by
  obtain ⟨-, ⟨-, ht⟩ | ⟨hn, -⟩⟩ := ioRead_cases h
  · exact ht
  · exact absurd hr hn

/-- Settles O16: a data write is the write of the selected slot, and an index write leaves the slots of its bank. -/
theorem dataWriteReachesOneSlot : Obligations.DataWriteReachesOneSlot := by
  intro s t d i hr
  refine ⟨?_, fun h => ?_, fun h => ?_, ?_⟩
  · rintro (h | h)
    · rw [ioWrite_runs_inv (op := opOutCrtd) hr h]; exact slot_writeData s.crt (dataByte d) i
    · rw [ioWrite_runs_inv (op := opOutCrtd) hr h]; exact slot_writeData s.crt (dataByte d) i
  · rw [ioWrite_runs_inv (op := opOutSeqd) hr h]; exact slot_writeData s.seq (dataByte d) i
  · rw [ioWrite_runs_inv (op := opOutGrd) hr h]; exact slot_writeData s.gr (dataByte d) i
  · rintro (h | h | h | h)
    · rw [ioWrite_runs_inv (op := opOutCrti) hr h]; exact ⟨rfl, rfl, rfl⟩
    · rw [ioWrite_runs_inv (op := opOutCrti) hr h]; exact ⟨rfl, rfl, rfl⟩
    · rw [ioWrite_runs_inv (op := opOutSeqi) hr h]; exact ⟨rfl, rfl, rfl⟩
    · rw [ioWrite_runs_inv (op := opOutGri) hr h]; exact ⟨rfl, rfl, rfl⟩

/-! ### Runs of one-byte requests -/

/-- A port's OpWrite: the operation its OUT row runs, which depends neither on the queue nor changes the lifecycle. -/
structure WritePort (port : Port) (op : Byte → State → State) : Prop where
  exec     : ∀ d s, exec (decodeOut port d) s = ioWrite port op d s
  enqueue  : ∀ v s rs, op v (s.enqueue rs) = (op v s).enqueue rs
  attached : ∀ v s, (op v s).attached = s.attached

/-- A port's OpRead, likewise. -/
structure ReadPort (port : Port) (op : State → Byte × State) : Prop where
  exec     : ∀ z s, exec (decodeIn port z) s = ioRead port op z s
  enqueue  : ∀ s rs, op (s.enqueue rs) = ((op s).1, (op s).2.enqueue rs)
  attached : ∀ s, (op s).2.attached = s.attached

/-- The state after a one-byte write. -/
def afterOut (op : Byte → State → State) (v : Byte) (s : State) : State := (op v s).respond none .ok

/-- The state after a one-byte read. -/
def afterIn (op : State → Byte × State) (s : State) : State := (op s).2.respond (some (.io (.b8 (op s).1))) .ok

theorem afterIn_response (op : State → Byte × State) (s : State) : (afterIn op s).response = gaveByte (op s).1 := rfl

/-- A run that starts with a one-byte write goes on from the state after it, with the rest of the queue. -/
theorem runSteps_out {port : Port} {op : Byte → State → State} (hp : WritePort port op) {k : Nat} {s : State}
    {rs : List Request} (v : Byte) (ha : s.attached = true) :
    runSteps (k + 1) (s.enqueue (reqOut port v :: rs)) = runSteps k ((afterOut op v s).enqueue rs) := by
  rw [runSteps_reqOut port v op hp.exec ha, hp.enqueue, enqueue_respond, afterOut]

/-- The same of a one-byte read. -/
theorem runSteps_in {port : Port} {op : State → Byte × State} (hp : ReadPort port op) {k : Nat} {s : State}
    {rs : List Request} (ha : s.attached = true) :
    runSteps (k + 1) (s.enqueue (reqIn port :: rs)) = runSteps k ((afterIn op s).enqueue rs) := by
  rw [runSteps_reqIn port op hp.exec ha, hp.enqueue, enqueue_respond, afterIn]

theorem WritePort.afterOut_attached {port : Port} {op : Byte → State → State} (hp : WritePort port op) {v : Byte}
    {s : State} (ha : s.attached = true) : (afterOut op v s).attached = true :=
  (hp.attached v s).trans ha

theorem ReadPort.afterIn_attached {port : Port} {op : State → Byte × State} (hp : ReadPort port op) {s : State}
    (ha : s.attached = true) : (afterIn op s).attached = true :=
  (hp.attached s).trans ha

/-- A write and then a read. -/
theorem runSteps_out_in {wp rp : Port} {wop : Byte → State → State} {rop : State → Byte × State}
    (hw : WritePort wp wop) (hr : ReadPort rp rop) {s : State} (v : Byte) (ha : s.attached = true) :
    runSteps 2 (s.enqueue [reqOut wp v, reqIn rp]) = .next (afterIn rop (afterOut wop v s)) := by
  rw [runSteps_out hw v ha, runSteps_in hr (hw.afterOut_attached ha), enqueue_nil, runSteps_zero]

/-- Two writes and then a read. -/
theorem runSteps_out_out_in {wp wp' rp : Port} {wop wop' : Byte → State → State} {rop : State → Byte × State}
    (hw : WritePort wp wop) (hw' : WritePort wp' wop') (hr : ReadPort rp rop) {s : State} (v v' : Byte)
    (ha : s.attached = true) :
    runSteps 3 (s.enqueue [reqOut wp v, reqOut wp' v', reqIn rp]) =
      .next (afterIn rop (afterOut wop' v' (afterOut wop v s))) := by
  rw [runSteps_out hw v ha, runSteps_out_in hw' hr v' (hw.afterOut_attached ha)]

/-! ### The ports -/

theorem writePort_crtiMono : WritePort 0x3B4 opOutCrti := ⟨fun _ _ => rfl, opOutCrti_enqueue, fun _ _ => rfl⟩
theorem writePort_crtiColour : WritePort 0x3D4 opOutCrti := ⟨fun _ _ => rfl, opOutCrti_enqueue, fun _ _ => rfl⟩
theorem writePort_crtdMono : WritePort 0x3B5 opOutCrtd := ⟨fun _ _ => rfl, opOutCrtd_enqueue, fun _ _ => rfl⟩
theorem writePort_crtdColour : WritePort 0x3D5 opOutCrtd := ⟨fun _ _ => rfl, opOutCrtd_enqueue, fun _ _ => rfl⟩
theorem writePort_seqi : WritePort 0x3C4 opOutSeqi := ⟨fun _ _ => rfl, opOutSeqi_enqueue, fun _ _ => rfl⟩
theorem writePort_seqd : WritePort 0x3C5 opOutSeqd := ⟨fun _ _ => rfl, opOutSeqd_enqueue, fun _ _ => rfl⟩
theorem writePort_gri : WritePort 0x3CE opOutGri := ⟨fun _ _ => rfl, opOutGri_enqueue, fun _ _ => rfl⟩
theorem writePort_grd : WritePort 0x3CF opOutGrd := ⟨fun _ _ => rfl, opOutGrd_enqueue, fun _ _ => rfl⟩
theorem writePort_attr : WritePort 0x3C0 opOutAttr :=
  ⟨fun _ _ => rfl, opOutAttr_enqueue, fun v s => opOutAttr_attached s v⟩
theorem writePort_dacri : WritePort 0x3C7 opOutDacri := ⟨fun _ _ => rfl, opOutDacri_enqueue, fun _ _ => rfl⟩
theorem writePort_dacwi : WritePort 0x3C8 opOutDacwi := ⟨fun _ _ => rfl, opOutDacwi_enqueue, fun _ _ => rfl⟩
theorem writePort_dacd : WritePort 0x3C9 opOutDacd := ⟨fun _ _ => rfl, opOutDacd_enqueue, fun _ _ => rfl⟩

theorem readPort_crtiMono : ReadPort 0x3B4 opInCrti := ⟨fun _ _ => rfl, opInCrti_enqueue, fun _ => rfl⟩
theorem readPort_crtiColour : ReadPort 0x3D4 opInCrti := ⟨fun _ _ => rfl, opInCrti_enqueue, fun _ => rfl⟩
theorem readPort_crtdMono : ReadPort 0x3B5 opInCrtd := ⟨fun _ _ => rfl, opInCrtd_enqueue, fun _ => rfl⟩
theorem readPort_crtdColour : ReadPort 0x3D5 opInCrtd := ⟨fun _ _ => rfl, opInCrtd_enqueue, fun _ => rfl⟩
theorem readPort_seqi : ReadPort 0x3C4 opInSeqi := ⟨fun _ _ => rfl, opInSeqi_enqueue, fun _ => rfl⟩
theorem readPort_seqd : ReadPort 0x3C5 opInSeqd := ⟨fun _ _ => rfl, opInSeqd_enqueue, fun _ => rfl⟩
theorem readPort_gri : ReadPort 0x3CE opInGri := ⟨fun _ _ => rfl, opInGri_enqueue, fun _ => rfl⟩
theorem readPort_grd : ReadPort 0x3CF opInGrd := ⟨fun _ _ => rfl, opInGrd_enqueue, fun _ => rfl⟩
theorem readPort_attr : ReadPort 0x3C0 opInAttr := ⟨fun _ _ => rfl, opInAttr_enqueue, fun _ => rfl⟩
theorem readPort_dacri : ReadPort 0x3C7 opInDacri := ⟨fun _ _ => rfl, opInDacri_enqueue, fun _ => rfl⟩
theorem readPort_dacwi : ReadPort 0x3C8 opInDacwi := ⟨fun _ _ => rfl, opInDacwi_enqueue, fun _ => rfl⟩
theorem readPort_dacd : ReadPort 0x3C9 opInDacd := ⟨fun _ _ => rfl, opInDacd_enqueue, fun _ => rfl⟩
theorem readPort_st1Mono : ReadPort 0x3BA opInSt1 := ⟨fun _ _ => rfl, opInSt1_enqueue, fun _ => rfl⟩
theorem readPort_st1Colour : ReadPort 0x3DA opInSt1 := ⟨fun _ _ => rfl, opInSt1_enqueue, fun _ => rfl⟩

/-! ### Read-back of the banks -/

/-- Settles O17: the index port of a bank reads the index it wrote; that of the attribute latch is then in AwaitData. -/
theorem indexReadBack : Obligations.IndexReadBack := by
  refine ⟨fun s b wp rp hports ha => ?_, fun s b ha hf => ?_⟩
  · have back {op : Byte → State → State} {op' : State → Byte × State} (hw : WritePort wp op) (hr : ReadPort rp op')
        (read : (op' (afterOut op b s)).1 = b) :
        ∃ t, runSteps 2 (s.enqueue [reqOut wp b, reqIn rp]) = .next t ∧ t.response = gaveByte b :=
      ⟨_, runSteps_out_in hw hr b ha, by rw [afterIn_response, read]⟩
    simp only [List.mem_cons, Prod.mk.injEq, List.not_mem_nil, or_false] at hports
    obtain ⟨rfl, rfl⟩ | ⟨rfl, rfl⟩ | ⟨rfl, rfl⟩ | ⟨rfl, rfl⟩ | ⟨rfl, rfl⟩ | ⟨rfl, rfl⟩ := hports
    · exact back writePort_crtiMono readPort_crtiMono rfl
    · exact back writePort_crtiMono readPort_crtiColour rfl
    · exact back writePort_crtiColour readPort_crtiMono rfl
    · exact back writePort_crtiColour readPort_crtiColour rfl
    · exact back writePort_seqi readPort_seqi rfl
    · exact back writePort_gri readPort_gri rfl
  · refine ⟨_, runSteps_out_in writePort_attr readPort_attr b ha, ?_⟩
    have awaitData : (afterOut opOutAttr b s).attr.flip = true := by
      rw [afterOut, respond_attr, opOutAttr_flip, hf]
      rfl
    rw [afterIn_response, opInAttr_awaitData awaitData]

/-- Settles O18: the data port of each bank reads the slot it wrote, the one that the index write selected. -/
theorem dataReadBack : Obligations.DataReadBack := by
  intro s ip i v hport ha
  simp only [List.mem_cons, List.not_mem_nil, or_false] at hport
  obtain rfl | rfl | rfl | rfl := hport
  · exact ⟨_, runSteps_out_out_in writePort_crtiMono writePort_crtdMono readPort_crtdMono i v ha,
      congrArg gaveByte (readData_writeData _ v)⟩
  · exact ⟨_, runSteps_out_out_in writePort_crtiColour writePort_crtdColour readPort_crtdColour i v ha,
      congrArg gaveByte (readData_writeData _ v)⟩
  · exact ⟨_, runSteps_out_out_in writePort_seqi writePort_seqd readPort_seqd i v ha,
      congrArg gaveByte (readData_writeData _ v)⟩
  · exact ⟨_, runSteps_out_out_in writePort_gri writePort_grd readPort_grd i v ha,
      congrArg gaveByte (readData_writeData _ v)⟩

/-! ### The attribute port after a status-1 read -/

/-- The low five bits of the index written are those that select the register (R34, R36). -/
theorem and_3F_mod_32 (i : Byte) : (i &&& 0x3F).toNat % 0x20 = i.toNat % 0x20 := by
  revert i
  decide

/-- The slot that an index byte selects. -/
def attrSlot (i : Byte) : Fin 256 := ⟨i.toNat % 0x20, by omega⟩

theorem attrMask_attrSlot (i : Byte) : attrMask (BitVec.ofNat 5 (attrSlot i).val) = attrMask (i.setWidth 5) :=
  congrArg attrMask (BitVec.eq_of_toNat_eq (by simp [attrSlot]))

/-- From AwaitIndex two writes of 0x3C0 are an index write and a data write, and end in AwaitIndex (R170, R172). -/
theorem afterOut_attr_twice {s : State} (hf : s.attr.flip = false) (i v : Byte) :
    (afterOut opOutAttr v (afterOut opOutAttr i s)).attr =
      { index := i &&& 0x3F, data := s.attr.data.set (attrSlot i) (v &&& attrMask (i.setWidth 5)), flip := false } := by
  have first : (afterOut opOutAttr i s).attr = { s.attr with index := i &&& 0x3F, flip := true } := by
    rw [afterOut, opOutAttr_awaitIndex hf]
    rfl
  have awaitData : (afterOut opOutAttr i s).attr.flip = true := by rw [first]
  have selected : (attrSlot i).val = (afterOut opOutAttr i s).attr.index.toNat % 0x20 := by
    rw [first]
    exact (and_3F_mod_32 i).symm
  rw [afterOut, opOutAttr_awaitData awaitData selected, attrMask_attrSlot, first]
  rfl

/-- Settles O23: the read ends in AwaitIndex whatever the flip-flop held, and keeps the index and the registers. -/
theorem statusReadResynchronises : Obligations.StatusReadResynchronises := by
  intro s sp i v hsp ha
  have read : ReadPort sp opInSt1 := by
    obtain rfl | rfl := hsp
    · exact readPort_st1Mono
    · exact readPort_st1Colour
  have attached := read.afterIn_attached ha
  refine ⟨afterOut opOutAttr v (afterOut opOutAttr i (afterIn opInSt1 s)), ?_, ?_⟩
  · rw [runSteps_in read ha, runSteps_out writePort_attr i attached,
      runSteps_out writePort_attr v (writePort_attr.afterOut_attached attached), enqueue_nil, runSteps_zero]
  · rw [afterOut_attr_twice rfl i v]
    refine ⟨rfl, rfl, fun j => ?_⟩
    dsimp only
    rw [Fin.getElem_fin, Fin.getElem_fin, Vector.getElem_set]
    simp only [attrSlot, eq_comm]
    rfl

end Sys2Proof.Proofs
end

section
/-! The data port of the DAC in sequence: a triplet written and read back (O27), and a read between two writes (O28). -/

namespace Sys2Proof.Proofs

open Sys2Proof.Machine Sys2Proof.Laws

/-! ### The sub-index -/

theorem nextSubIndex_val : ∀ i : Fin 3, (nextSubIndex i).val = (i.val + 1) % 3 := by decide

theorem afterRead_subIndex (d : DacPalette) : d.afterRead.subIndex = nextSubIndex d.subIndex := by
  rw [afterRead_eq]

theorem writeComponent_subIndex (d : DacPalette) (v : Byte) :
    (d.writeComponent v).subIndex = nextSubIndex d.subIndex := by
  by_cases third : d.subIndex = 2
  · rw [writeComponent_commit d v third, third]
    rfl
  · rw [writeComponent_partial d v third]

/-! ### The first and the second component -/

theorem writeComponent_first {d : DacPalette} (h : d.subIndex = 0) (v : Byte) :
    d.writeComponent v = { d with pending := d.pending.set 0 (v &&& 0x3F), subIndex := 1 } := by
  obtain ⟨palette, readIndex, writeIndex, subIndex, pending, dacState⟩ := d
  obtain rfl : subIndex = 0 := h
  exact writeComponent_partial _ v (show (0 : Fin 3) ≠ 2 by decide)

theorem writeComponent_second {d : DacPalette} (h : d.subIndex = 1) (v : Byte) :
    d.writeComponent v = { d with pending := d.pending.set 1 (v &&& 0x3F), subIndex := 2 } := by
  obtain ⟨palette, readIndex, writeIndex, subIndex, pending, dacState⟩ := d
  obtain rfl : subIndex = 1 := h
  exact writeComponent_partial _ v (show (1 : Fin 3) ≠ 2 by decide)

theorem afterRead_first {d : DacPalette} (h : d.subIndex = 0) : d.afterRead = { d with subIndex := 1 } := by
  rw [afterRead_eq, h]
  rfl

theorem afterRead_second {d : DacPalette} (h : d.subIndex = 1) : d.afterRead = { d with subIndex := 2 } := by
  rw [afterRead_eq, h]
  rfl

/-! ### Three components in a row -/

/-- The triplet of the three components, masked to six bits (R190). -/
def maskedTriplet (r g b : Byte) : Vector Byte 3 := #v[r &&& 0x3F, g &&& 0x3F, b &&& 0x3F]

/-- Three writes from sub-index 0 replace every pending byte, so the entry is the triplet itself (R190). -/
theorem writeComponent_triplet {d : DacPalette} (h : d.subIndex = 0) (r g b : Byte) :
    ((d.writeComponent r).writeComponent g).writeComponent b =
      { d with
        pending := maskedTriplet r g b,
        palette := d.palette.set d.writeIndex.toNat (maskedTriplet r g b) d.writeIndex.isLt,
        writeIndex := d.writeIndex + 1, subIndex := 0 } := by
  have triplet : ((d.pending.set 0 (r &&& 0x3F)).set 1 (g &&& 0x3F)).set 2 (b &&& 0x3F) = maskedTriplet r g b := by
    refine Vector.ext fun c hc => ?_
    match c, hc with
    | 0, _ => simp [maskedTriplet]
    | 1, _ => simp [maskedTriplet]
    | 2, _ => simp [maskedTriplet]
  rw [writeComponent_first h r, writeComponent_second rfl g, writeComponent_commit _ b rfl]
  exact congrArg (fun p => { d with
    pending := p, palette := d.palette.set d.writeIndex.toNat p d.writeIndex.isLt,
    writeIndex := d.writeIndex + 1, subIndex := 0 }) triplet

/-- Three reads from sub-index 0 return the components of one entry in order (R191). -/
theorem component_triplet {d : DacPalette} (h : d.subIndex = 0) {e : Fin 256} (he : e.val = d.readIndex.toNat) :
    d.component = d.palette[e][0] ∧ d.afterRead.component = d.palette[e][1] ∧
      d.afterRead.afterRead.component = d.palette[e][2] := by
  refine ⟨component_eq he h, ?_, ?_⟩
  · rw [afterRead_first h]
    exact component_eq (d := { d with subIndex := 1 }) he rfl
  · rw [afterRead_first h, afterRead_second rfl]
    exact component_eq (d := { d with subIndex := 2 }) he rfl

/-! ### The round trip -/

/-- The state after DACSET(e, r, g, b) (R129). -/
def afterDacSet (e r g b : Byte) (s : State) : State :=
  afterOut opOutDacd b (afterOut opOutDacd g (afterOut opOutDacd r (afterOut opOutDacwi e s)))

theorem afterDacSet_attached {s : State} (e r g b : Byte) (ha : s.attached = true) :
    (afterDacSet e r g b s).attached = true :=
  writePort_dacd.afterOut_attached (writePort_dacd.afterOut_attached (writePort_dacd.afterOut_attached
    (writePort_dacwi.afterOut_attached ha)))

theorem runSteps_dacSet {s : State} (e r g b : Byte) (ha : s.attached = true) :
    runSteps 4 (s.enqueue (dacSet e r g b)) = .next (afterDacSet e r g b s) := by
  have attached1 := writePort_dacwi.afterOut_attached (v := e) ha
  have attached2 := writePort_dacd.afterOut_attached (v := r) attached1
  have attached3 := writePort_dacd.afterOut_attached (v := g) attached2
  rw [dacSet, runSteps_out writePort_dacwi e ha, runSteps_out writePort_dacd r attached1,
    runSteps_out writePort_dacd g attached2, runSteps_out writePort_dacd b attached3, enqueue_nil, runSteps_zero]
  rfl

theorem afterDacSet_dac (e r g b : Byte) (s : State) :
    (afterDacSet e r g b s).dac =
      { s.dac with
        pending := maskedTriplet r g b, palette := s.dac.palette.set e.toNat (maskedTriplet r g b) e.isLt,
        writeIndex := e + 1, subIndex := 0, dacState := 0 } :=
  writeComponent_triplet (d := s.dac.setWriteIndex e) rfl r g b

/-- A single read. -/
theorem runSteps_one_in {rp : Port} {rop : State → Byte × State} (hr : ReadPort rp rop) {s : State}
    (ha : s.attached = true) : runSteps 1 (s.enqueue [reqIn rp]) = .next (afterIn rop s) := by
  rw [runSteps_in hr ha, enqueue_nil, runSteps_zero]

/-- A single write. -/
theorem runSteps_one_out {wp : Port} {wop : Byte → State → State} (hw : WritePort wp wop) {s : State} (v : Byte)
    (ha : s.attached = true) : runSteps 1 (s.enqueue [reqOut wp v]) = .next (afterOut wop v s) := by
  rw [runSteps_out hw v ha, enqueue_nil, runSteps_zero]

/-- Settles O27: DACSET leaves the triplet in its entry and the write index after it, and from sub-index 0 three reads
go through the components of the entry. -/
theorem dacRoundTrip : Obligations.DacRoundTrip := by
  refine ⟨fun s e r g b ha => ?_, fun s b ip ha hip => ?_⟩
  · have dac := afterDacSet_dac e r g b s
    have cursor : (afterDacSet e r g b s).dac.writeIndex - 1 = e := by
      rw [dac]
      exact BitVec.add_sub_cancel e 1
    refine ⟨_, runSteps_dacSet e r g b ha, cursor, ?_⟩
    rw [cursor]
    have selected : (afterOut opOutDacri e (afterDacSet e r g b s)).dac.palette[e.toFin] = maskedTriplet r g b := by
      rw [afterOut, respond_dac, opOutDacri_dac, setReadIndex_palette, dac]
      exact Vector.getElem_set_self _
    obtain ⟨red, green, blue⟩ :=
      component_triplet (d := (afterOut opOutDacri e (afterDacSet e r g b s)).dac) rfl (e := e.toFin) rfl
    rw [selected] at red green blue
    have attached := afterDacSet_attached e r g b ha
    have attached1 := writePort_dacri.afterOut_attached (v := e) attached
    have attached2 := readPort_dacd.afterIn_attached attached1
    have attached3 := readPort_dacd.afterIn_attached attached2
    exact ⟨_, _, _, runSteps_out_in writePort_dacri readPort_dacd e attached, congrArg gaveByte red,
      runSteps_one_in readPort_dacd attached2, congrArg gaveByte green,
      runSteps_one_in readPort_dacd attached3, congrArg gaveByte blue⟩
  · obtain rfl | rfl := hip
    · exact ⟨_, runSteps_out_in writePort_dacri readPort_dacri b ha, rfl⟩
    · exact ⟨_, runSteps_out_in writePort_dacwi readPort_dacwi b ha, rfl⟩

/-! ### A read between two writes -/

/-- From sub-index 0 a write takes component 0, a read moves on over component 1, and the next write commits (R193). -/
theorem writeComponent_afterRead_writeComponent {d : DacPalette} (h : d.subIndex = 0) (a c : Byte) :
    ((d.writeComponent a).afterRead.writeComponent c).palette =
      d.palette.set d.writeIndex.toNat ((d.pending.set 0 (a &&& 0x3F)).set 2 (c &&& 0x3F)) d.writeIndex.isLt := by
  rw [writeComponent_first h a, afterRead_second rfl, writeComponent_commit _ c rfl]

/-- Settles O28: every access moves the one sub-index on, and the byte that the read passed over stays as it was in
`pending`. -/
theorem dacSharedSubIndex : Obligations.DacSharedSubIndex := by
  refine ⟨?_, fun s a c e w ha h0 he hw => ?_⟩
  · rintro s t z d (⟨hr, h⟩ | ⟨hr, h⟩)
    · rw [ioRead_runs_inv (op := opInDacd) hr h, respond_dac, opInDacd_dac, afterRead_subIndex, nextSubIndex_val]
    · rw [ioWrite_runs_inv (op := opOutDacd) hr h, respond_dac, opOutDacd_dac, writeComponent_subIndex,
        nextSubIndex_val]
  · have attached1 := writePort_dacd.afterOut_attached (v := a) ha
    have attached2 := readPort_dacd.afterIn_attached attached1
    refine ⟨_, _, runSteps_out_in writePort_dacd readPort_dacd a ha, ?_, ?_,
      runSteps_one_out writePort_dacd c attached2, ?_⟩
    · have read : (s.dac.writeComponent a).component = s.dac.palette[e][1] := by
        rw [writeComponent_first h0 a]
        exact component_eq (d := { s.dac with pending := _, subIndex := 1 }) he rfl
      exact congrArg gaveByte read
    · change (s.dac.writeComponent a).afterRead.subIndex = 2
      rw [afterRead_subIndex, writeComponent_subIndex, h0]
      rfl
    · have entry : ((s.dac.writeComponent a).afterRead.writeComponent c).palette[w] =
          (s.dac.pending.set 0 (a &&& 0x3F)).set 2 (c &&& 0x3F) := by
        obtain rfl : w = ⟨s.dac.writeIndex.toNat, s.dac.writeIndex.isLt⟩ := Fin.ext hw
        rw [writeComponent_afterRead_writeComponent h0 a c]
        exact Vector.getElem_set_self _
      change ((s.dac.writeComponent a).afterRead.writeComponent c).palette[w][0] = _ ∧
        ((s.dac.writeComponent a).afterRead.writeComponent c).palette[w][1] = _ ∧
        ((s.dac.writeComponent a).afterRead.writeComponent c).palette[w][2] = _
      rw [entry]
      simp

end Sys2Proof.Proofs
end

section
/-! The address decoder: the pipeline of write modes 1 to 3 under VGA_GK (O38), the inputs of a decode (O40), and the
bound of PLANE_SIZE (O47). -/

namespace Sys2Proof.Proofs

open Sys2Proof.Machine Sys2Proof.Laws

/-! ### The pipeline of VGA_GK -/

theorem mode123Write_vgaGk {s : State} (hp : s.params.writeMode123 = .vgaGk) (r : Nat) (v : Byte) :
    s.mode123Write r v = .ok { bytes := s.enabledBytes r fun p => s.vgaGkByte v p, draws := 0 } := by
  simp only [State.mode123Write, hp]

theorem rotateCount_toNat (s : State) : s.rotateCount.toNat = (s.gr.slot 3).toNat % 8 := by
  have bits : ∀ b : Byte, (b.extractLsb' 0 3).toNat = b.toNat % 8 := by decide
  exact bits (s.gr.slot 3)

theorem functionSelect_toNat (s : State) : s.functionSelect.toNat = (s.gr.slot 3).toNat / 8 % 4 := by
  have bits : ∀ b : Byte, (b.extractLsb' 3 2).toNat = b.toNat / 8 % 4 := by decide
  exact bits (s.gr.slot 3)

/-- The two shifts of R231 are a rotation. -/
theorem rotateByte_eq_rotateRight (v : Byte) (n : BitVec 3) : rotateByte v n = v.rotateRight n.toNat := by
  rw [BitVec.rotateRight_def, Nat.mod_eq_of_lt n.isLt, rotateByte]

/-- The function select by its number. -/
theorem alu_eq (s : State) (x l : Byte) :
    s.alu x l =
      if s.functionSelect.toNat = 0 then x else if s.functionSelect.toNat = 1 then x &&& l
      else if s.functionSelect.toNat = 2 then x ||| l else x ^^^ l := by
  have codes : ∀ f : BitVec 2, (f = 0#2 ↔ f.toNat = 0) ∧ (f = 1#2 ↔ f.toNat = 1) ∧ (f = 2#2 ↔ f.toNat = 2) := by
    decide
  obtain ⟨h0, h1, h2⟩ := codes s.functionSelect
  simp only [State.alu, h0, h1, h2]

/-- Settles O38: under VGA_GK a write is one of the enabled planes, and its byte is the model's pipeline with the rotate
count and the function select as numbers. -/
theorem vgaGkPipeline : Obligations.VgaGkPipeline := by
  intro s off v r ha hs ⟨hin, hr⟩ hm hp
  have decoded := (decodeWrite_mode123 hr hm v).trans (mode123Write_vgaGk hp r v)
  have writes := writesPlanes_enabledBytes ha hs hin decoded
  simp only [State.vgaGkByte, maskMerge, rotateByte_eq_rotateRight, alu_eq, rotateCount_toNat, functionSelect_toNat,
    spread] at writes
  exact writes

/-! ### The inputs of a decode -/

/-- Two states agree in what the decoder reads of them, whatever the policies (R47). -/
structure SameDecode (s t : State) : Prop where
  cfg            : t.cfg = s.cfg
  params         : t.params = s.params
  planeRead      : ∀ q o, t.planeRead q o = s.planeRead q o
  mapMask        : t.mapMask = s.mapMask
  chain4         : t.chain4 = s.chain4
  setReset       : t.setReset = s.setReset
  enableSetReset : t.enableSetReset = s.enableSetReset
  readMapSelect  : t.readMapSelect &&& 0x03 = s.readMapSelect &&& 0x03
  writeMode      : t.writeMode = s.writeMode
  oddEven        : t.oddEven = s.oddEven
  memoryMapMode  : t.memoryMapMode = s.memoryMapMode
  bitMask        : t.bitMask = s.bitMask

/-- A field of a register is that field of the register under a mask that keeps it. -/
theorem extractLsb'_of_mask {m x y : Byte} (h : x &&& m = y &&& m) {start len : Nat}
    (hm : m.extractLsb' start len = BitVec.allOnes len) : x.extractLsb' start len = y.extractLsb' start len := by
  have field := congrArg (·.extractLsb' start len) h
  simp only [BitVec.extractLsb'_and, hm, BitVec.and_allOnes] at field
  exact field

/-- The same of a single bit. -/
theorem getLsbD_of_mask {m x y : Byte} (h : x &&& m = y &&& m) {i : Nat} (hm : m.getLsbD i = true) :
    x.getLsbD i = y.getLsbD i := by
  have bit := congrArg (·.getLsbD i) h
  simp only [BitVec.getLsbD_and, hm, Bool.and_true] at bit
  exact bit

section

variable {s t : State} (h : SameDecode s t)

include h

theorem SameDecode.rebase (a : Nat) : t.rebase a = s.rebase a := by
  have region : t.mapRegion = s.mapRegion := by
    simp only [State.mapRegion, h.cfg, h.memoryMapMode]
  unfold State.rebase
  rw [region, h.cfg]

/-- Bit 1 of the read map select is one of the two that agree. -/
theorem SameDecode.oddEvenPlane (r : Nat) : t.oddEvenPlane r = s.oddEvenPlane r := by
  have bit : t.readMapSelect &&& 0x02 = s.readMapSelect &&& 0x02 := by
    have low := congrArg (· &&& (0x02 : Byte)) h.readMapSelect
    simp only [BitVec.and_assoc] at low
    exact low
  simp only [State.oddEvenPlane, bit]

theorem SameDecode.planarReadPlane : t.planarReadPlane = s.planarReadPlane := by
  simp only [State.planarReadPlane, h.readMapSelect]

theorem SameDecode.planeEnabled (p : Plane) : t.planeEnabled p = s.planeEnabled p := by
  simp only [State.planeEnabled, h.mapMask]

theorem SameDecode.gatedByte (p : Plane) (r : Nat) (v : Byte) : t.gatedByte p r v = s.gatedByte p r v := by
  simp only [State.gatedByte, h.planeEnabled]

theorem SameDecode.enabledBytes (r : Nat) (f : Plane → Byte) : t.enabledBytes r f = s.enabledBytes r f := by
  simp only [State.enabledBytes, h.planeEnabled]

theorem SameDecode.mode0Bytes (r : Nat) (v : Byte) : t.mode0Bytes r v = s.mode0Bytes r v := by
  simp only [State.mode0Bytes, State.srMux, h.enabledBytes, h.bitMask, h.params, h.enableSetReset, h.setReset,
    h.planeRead]

theorem SameDecode.decodeRead (a : Nat) : t.decodeRead a = s.decodeRead a := by
  simp only [State.decodeRead, h.rebase, h.chain4, h.oddEven, h.oddEvenPlane, h.planarReadPlane]

/-- The pipeline of VGA_GK reads the latches, the rotate count and the function select besides (R231). -/
theorem SameDecode.vgaGkByte (hl : t.latch = s.latch) (hrot : t.rotateCount = s.rotateCount)
    (hfn : t.functionSelect = s.functionSelect) (v : Byte) (p : Plane) : t.vgaGkByte v p = s.vgaGkByte v p := by
  simp only [State.vgaGkByte, State.alu, h.writeMode, h.bitMask, h.setReset, hl, hrot, hfn]

/-- What write modes 1 to 3 read besides, by policy (R230, R231). -/
theorem SameDecode.mode123Write
    (hgk : s.params.writeMode123 = .vgaGk →
      t.latch = s.latch ∧ t.rotateCount = s.rotateCount ∧ t.functionSelect = s.functionSelect)
    (hdraw : s.params.writeMode123 = .draw → t.draws = s.draws) (r : Nat) (v : Byte) :
    t.mode123Write r v = s.mode123Write r v := by
  cases hp : s.params.writeMode123 with
  | refuse => rw [mode123Write_refuse hp, mode123Write_refuse (h.params ▸ hp)]
  | draw => rw [mode123Write_draw hp, mode123Write_draw (h.params ▸ hp), h.enabledBytes, hdraw hp]
  | vgaGk =>
    obtain ⟨hl, hrot, hfn⟩ := hgk hp
    simp only [mode123Write_vgaGk hp, mode123Write_vgaGk (h.params ▸ hp), h.enabledBytes, h.vgaGkByte hl hrot hfn]

theorem SameDecode.decodeWrite
    (hgk : s.params.writeMode123 = .vgaGk →
      t.latch = s.latch ∧ t.rotateCount = s.rotateCount ∧ t.functionSelect = s.functionSelect)
    (hdraw : s.params.writeMode123 = .draw → t.draws = s.draws) (a : Nat) (v : Byte) :
    t.decodeWrite a v = s.decodeWrite a v := by
  simp only [State.decodeWrite, State.planarWrite, h.rebase, h.chain4, h.oddEven, h.gatedByte, h.oddEvenPlane,
    h.writeMode, h.mode0Bytes, h.mode123Write hgk hdraw]

end

/-- Settles O40: each mask of the statement keeps the bits of one decoder input, and the decoder goes through these
alone. -/
theorem decoderReadsOnlyItsInputs : Obligations.DecoderReadsOnlyItsInputs := by
  intro s t cfg params planeRead gk draw seq2 seq4 gr0 gr1 gr4 gr5 gr6 gr8 a v
  have same : SameDecode s t :=
    { cfg := cfg, params := params, planeRead := planeRead,
      mapMask := extractLsb'_of_mask seq2 (by decide), chain4 := getLsbD_of_mask seq4 (by decide),
      setReset := gr0, enableSetReset := gr1, readMapSelect := gr4,
      writeMode := extractLsb'_of_mask gr5 (by decide), oddEven := getLsbD_of_mask gr5 (by decide),
      memoryMapMode := extractLsb'_of_mask gr6 (by decide), bitMask := gr8 }
  refine ⟨same.decodeWrite (fun hp => ?_) draw a v, same.decodeRead a⟩
  obtain ⟨latch, gr3⟩ := gk hp
  exact ⟨latch, extractLsb'_of_mask gr3 (by decide), extractLsb'_of_mask gr3 (by decide)⟩

/-! ### PLANE_SIZE -/

theorem mapRegion_size_le (s : State) : s.mapRegion.2 ≤ max s.cfg.windowLen.toNat 0x10000 := by
  obtain ⟨-, -, h⟩ | ⟨-, -, h⟩ | ⟨-, -, h⟩ | ⟨-, -, h⟩ := (mapRegion_eq_iff s _ _).1 (Prod.eta s.mapRegion).symm <;>
    omega

/-- Settles O47: both plane operations ask for the bound, and no map is longer than the window or 64 KiB. -/
theorem planeSizeBound : Obligations.PlaneSizeBound := by
  refine ⟨fun s p o v ho => ⟨if_neg (Nat.not_lt.2 ho), if_neg (Nat.not_lt.2 ho)⟩, fun s a r hsize hwin hr => ?_⟩
  obtain ⟨-, below⟩ := (rebase_eq_some_iff s a r).1 hr
  have size := mapRegion_size_le s
  omega

end Sys2Proof.Proofs
end

section
/-! MMIO write requests: when they complete and what they leave (O43), their bytes in turn (O44), issued twice (O49),
and seen by the next read (O50). -/

namespace Sys2Proof.Proofs

open Sys2Proof.Machine Sys2Proof.Laws

/-! ### When a request completes, and its status -/

theorem planarMode123_same {s t : State} (h : SameButPlanes s t) : PlanarMode123 t ↔ PlanarMode123 s := by
  unfold PlanarMode123
  rw [h.chain4, h.oddEven, h.writeMode]

/-- A request is refused only for a byte in the window and the map, in write mode 1, 2 or 3 under REFUSE (R230). -/
theorem mmioWriteBytes_error {s : State} {a : Nat} {bs : List Byte} {why : Refusal}
    (h : s.mmioWriteBytes a bs = .error why) :
    PlanarMode123 s ∧ s.params.writeMode123 = .refuse ∧
      ∃ k r, k < bs.length ∧ a + k < s.cfg.windowLen.toNat ∧ s.rebase (a + k) = some r := by
  induction bs generalizing s a why with
  | nil => cases h
  | cons v vs ih =>
    by_cases ha : s.cfg.windowLen.toNat ≤ a
    · cases hr : s.mmioWriteBytes (a + 1) vs with
      | ok res => rw [mmioWriteBytes_cons_beyond (first := res.2) ha hr] at h; cases h
      | error why' =>
        obtain ⟨-, -, k, r, -, hin, -⟩ := ih hr
        omega
    · have ha := Nat.not_le.1 ha
      cases hb : s.mmioByteWrite a v with
      | error why' =>
        unfold State.mmioByteWrite at hb
        split at hb
        · next hd =>
          obtain ⟨-, hm, hp, r, hr⟩ := decodeWrite_error hd
          exact ⟨hm, hp, 0, r, Nat.succ_pos _, ha, hr⟩
        · cases hb
      | ok u =>
        rw [mmioWriteBytes_cons_inWindow ha hb] at h
        have same := mmioByteWrite_same hb
        obtain ⟨hm, hp, k, r, hk, hin, hr⟩ := ih h
        rw [same.params] at hp
        rw [same.cfg, Nat.succ_add_eq_add_succ] at hin
        rw [same.rebase, Nat.succ_add_eq_add_succ] at hr
        exact ⟨(planarMode123_same same).1 hm, hp, k + 1, r, Nat.succ_lt_succ hk, hin, hr⟩

theorem firstBeyond_same {s t : State} (h : SameButPlanes s t) (a n : Nat) : firstBeyond t a n = firstBeyond s a n := by
  simp only [firstBeyond, h.cfg]

/-- A completing write reports the first address beyond the window (R93, R250). -/
theorem mmioWriteBytes_first {s t : State} {a : Nat} {bs : List Byte} {first : Option Nat}
    (h : s.mmioWriteBytes a bs = .ok (t, first)) : first = firstBeyond s a bs.length := by
  induction bs generalizing s a with
  | nil => cases h; rfl
  | cons v vs ih =>
    rw [List.length_cons]
    obtain ⟨ha, rfl, -⟩ | ⟨ha, u, hu, hr⟩ := mmioWriteBytes_cons_cases h
    · rw [firstBeyond_succ_beyond _ ha]
    · rw [firstBeyond_succ_inWindow _ ha, ih hr, firstBeyond_same (mmioByteWrite_same hu)]

/-- A plane byte that no byte of the request reaches keeps its value (R250). -/
theorem mmioWriteBytes_other {s t : State} {a : Nat} {bs : List Byte} {first : Option Nat}
    (h : s.mmioWriteBytes a bs = .ok (t, first)) {q : Plane} {o : Nat}
    (hn : s.planeEnabled q = false ∨
      ∀ k, k < bs.length → a + k < s.cfg.windowLen.toNat → s.rebase (a + k) ≠ some o) :
    t.planeRead q o = s.planeRead q o := by
  induction bs generalizing s a first with
  | nil => cases h; rfl
  | cons v vs ih =>
    have later : s.planeEnabled q = false ∨
        ∀ k, k < vs.length → a + 1 + k < s.cfg.windowLen.toNat → s.rebase (a + 1 + k) ≠ some o := by
      refine hn.imp_right fun hk k hlt => ?_
      rw [Nat.succ_add_eq_add_succ]
      exact hk (k + 1) (Nat.succ_lt_succ hlt)
    obtain ⟨-, -, g, hr⟩ | ⟨ha, u, hu, hr⟩ := mmioWriteBytes_cons_cases h
    · exact ih hr later
    · have same := mmioByteWrite_same hu
      have here : u.planeRead q o = s.planeRead q o :=
        mmioByteWrite_other hu (hn.imp_right fun hk => hk 0 (Nat.succ_pos _) ha)
      rw [← here]
      refine ih hr ?_
      simp only [same.planeEnabled, same.cfg, same.rebase]
      exact later

/-- The word of a write gives its offset, and the record its bytes (R117, log entry 11). -/
theorem decode_mmioWord_write (off : Offset) (bytes : List Byte) :
    decode { word := mmioWord 1 off, wbytes := bytes } = .ok (.mmioW off bytes) := by
  unfold decode decodeMmio
  simp [fieldSpace_mmioWord, fieldDir_mmioWord, fieldOff_mmioWord]

/-- Settles O43: the handler has no other error than the refusal of R230, its report is the first address beyond the
window, and each byte changes plane bytes at its own rebased address alone. -/
theorem mmioWriteRequest : Obligations.MmioWriteRequest := by
  refine ⟨fun off bytes => ?_, fun s off bytes ha hok => ?_⟩
  · have word : 0x60000000 ||| off.setWidth 32 = mmioWord 1 off := (mmioWord_eq_or 1 off).symm
    rw [word]
    exact decode_mmioWord_write off bytes
  cases h : s.mmioWriteBytes off.toNat bytes with
  | error why =>
    obtain ⟨hm, hp, k, r, hk, hin, hr⟩ := mmioWriteBytes_error h
    obtain hok | hok | hok := hok
    · exact absurd hm hok
    · exact absurd hp hok
    · exact absurd ⟨hin, hr⟩ (hok k r hk)
  | ok res =>
    obtain ⟨t, first⟩ := res
    have same := (mmioWriteBytes_same h).eq
    refine ⟨t.planes, t.draws, ?_, fun q o hn => ?_⟩
    · rw [exec_mmioW_of_bytes ha h, mmioWriteBytes_first h, mmioStatus_firstBeyond]
      exact congrArg (fun x : State => Host.Outcome.next (x.respond none (rangeStatus s off bytes.length))) same
    · have read : State.planeRead { s with planes := t.planes } q o = t.planeRead q o := by
        rw [same]
        rfl
      rw [read]
      exact mmioWriteBytes_other h (hn.imp_right fun hk k hlt hin hr => hk k hlt ⟨hin, hr⟩)

/-! ### The response of an earlier request makes no difference -/

theorem planeWrite_respond (s : State) (d : Option ReadData) (st : Status) (p : Plane) (o : Nat) (v : Byte) :
    (s.respond d st).planeWrite p o v = (s.planeWrite p o v).respond d st := by
  unfold State.planeWrite State.respond
  split <;> rfl

theorem commitBytes_respond (bs : List PlaneByte) (s : State) (d : Option ReadData) (st : Status) :
    (s.respond d st).commitBytes bs = (s.commitBytes bs).respond d st := by
  induction bs generalizing s with
  | nil => rfl
  | cons b bs ih => rw [State.commitBytes, planeWrite_respond, ih, State.commitBytes]

theorem decodeWrite_respond (s : State) (d : Option ReadData) (st : Status) (a : Nat) (v : Byte) :
    (s.respond d st).decodeWrite a v = s.decodeWrite a v := rfl

theorem mmioByteWrite_respond (s : State) (d : Option ReadData) (st : Status) (a : Nat) (v : Byte) :
    (s.respond d st).mmioByteWrite a v = (s.mmioByteWrite a v).map (State.respond · d st) := by
  unfold State.mmioByteWrite
  rw [decodeWrite_respond]
  cases s.decodeWrite a v with
  | error why => rfl
  | ok w => simp only [commitBytes_respond]; rfl

theorem mmioWriteBytes_respond (bs : List Byte) (s : State) (d : Option ReadData) (st : Status) (a : Nat) :
    (s.respond d st).mmioWriteBytes a bs =
      (s.mmioWriteBytes a bs).map fun res => (res.1.respond d st, res.2) := by
  induction bs generalizing s a with
  | nil => rfl
  | cons v vs ih =>
    unfold State.mmioWriteBytes
    rw [respond_cfg]
    split
    · rw [ih]
      cases s.mmioWriteBytes (a + 1) vs <;> rfl
    · rw [mmioByteWrite_respond]
      cases s.mmioByteWrite a v with
      | error why => rfl
      | ok t => exact ih t (a + 1)

/-! ### The bytes in turn -/

/-- A request of one byte in the window is the handler of that byte, and a response. -/
theorem exec_mmioW_one {s t : State} {off : Offset} {v : Byte} (ha : s.attached = true)
    (hin : off.toNat < s.cfg.windowLen.toNat) (h : s.mmioByteWrite off.toNat v = .ok t) :
    exec (.mmioW off [v]) s = .next (t.respond none .ok) :=
  exec_mmioW_of_bytes ha ((mmioWriteBytes_cons_inWindow (vs := []) hin h).trans rfl)

/-- What the first byte of a request does to the state: beyond the window nothing (R93). -/
def firstByteWrite (s : State) (a : Nat) (v : Byte) : Except Refusal State :=
  if s.cfg.windowLen.toNat ≤ a then .ok s else s.mmioByteWrite a v

/-- The offset it reports. -/
def firstByteBeyond (s : State) (a : Nat) : Option Nat := if s.cfg.windowLen.toNat ≤ a then some a else none

theorem firstByteWrite_same {s w : State} {a : Nat} {v : Byte} (h : firstByteWrite s a v = .ok w) :
    SameButPlanes s w := by
  unfold firstByteWrite at h
  split at h
  · cases h; exact .refl s
  · exact mmioByteWrite_same h

theorem mmioWriteBytes_cons_error {s : State} {a : Nat} {v : Byte} {why : Refusal}
    (h : firstByteWrite s a v = .error why) (vs : List Byte) : s.mmioWriteBytes a (v :: vs) = .error why := by
  unfold firstByteWrite at h
  split at h
  · cases h
  · next ha => exact mmioWriteBytes_cons_refused (Nat.not_le.1 ha) h vs

/-- The rest of a request goes on from the state its first byte left, and the first offset reported stays (R250,
R301). -/
theorem mmioWriteBytes_cons_ok {s w : State} {a : Nat} {v : Byte} (h : firstByteWrite s a v = .ok w)
    (vs : List Byte) :
    s.mmioWriteBytes a (v :: vs) =
      (w.mmioWriteBytes (a + 1) vs).map fun res => (res.1, (firstByteBeyond s a).or res.2) := by
  unfold firstByteWrite at h
  split at h
  · next ha =>
    cases h
    simp only [State.mmioWriteBytes, firstByteBeyond, if_pos ha]
    cases s.mmioWriteBytes (a + 1) vs <;> rfl
  · next ha =>
    rw [mmioWriteBytes_cons_inWindow (Nat.not_le.1 ha) h, firstByteBeyond, if_neg ha]
    cases w.mmioWriteBytes (a + 1) vs <;> rfl

/-- The rest issued on its own, after the first byte's response: it is refused, or completes, as the rest of the request
does. -/
theorem mmioWriteBytes_of_exec_rest {w : State} {off : Offset} {vs : List Byte} {st : Status}
    (ha : w.attached = true) (hoff : (off + 1).toNat = off.toNat + 1) :
    (∀ why, exec (.mmioW (off + 1) vs) (w.respond none st) = .refused why →
      w.mmioWriteBytes (off.toNat + 1) vs = .error why) ∧
    (∀ u, exec (.mmioW (off + 1) vs) (w.respond none st) = .next u →
      ∃ x first, w.mmioWriteBytes (off.toNat + 1) vs = .ok (x, first) ∧ u = x.respond none (mmioStatus first)) := by
  have bytes := mmioWriteBytes_respond vs w none st (off.toNat + 1)
  cases hb : w.mmioWriteBytes (off.toNat + 1) vs with
  | error why' =>
    rw [hb, ← hoff] at bytes
    have refused := exec_mmioW_refused_of_bytes (s := w.respond none st) ha bytes
    refine ⟨fun why h => ?_, fun u h => ?_⟩
    · rw [refused] at h; cases h; rfl
    · rw [refused] at h; cases h
  | ok res =>
    rw [hb, ← hoff] at bytes
    have next := exec_mmioW_of_bytes (s := w.respond none st) ha bytes
    refine ⟨fun why h => ?_, fun u h => ?_⟩
    · rw [next] at h; cases h
    · rw [next] at h; cases h; exact ⟨res.1, res.2, rfl, rfl⟩

/-- Settles O44: the first byte is refused, or leaves the state in which the rest goes on, after the response of the
first byte as without it. -/
theorem mmioWriteIsByteSerial : Obligations.MmioWriteIsByteSerial := by
  intro s off v vs ha hlt
  have hoff : (off + 1).toNat = off.toNat + 1 := by
    rw [BitVec.toNat_add]
    exact Nat.mod_eq_of_lt hlt
  cases hb : firstByteWrite s off.toNat v with
  | error why' =>
    have refused (vs : List Byte) := exec_mmioW_refused_of_bytes ha (mmioWriteBytes_cons_error hb vs)
    refine ⟨fun why h => ?_, fun t ht => ?_⟩
    · rw [refused [], ← refused vs] at h
      exact h
    · rw [refused []] at ht; cases ht
  | ok w =>
    have single := exec_mmioW_of_bytes ha ((mmioWriteBytes_cons_ok hb []).trans rfl)
    refine ⟨fun why h => ?_, fun t ht => ?_⟩
    · rw [single] at h; cases h
    rw [single] at ht
    cases ht
    have attached : w.attached = true := (firstByteWrite_same hb).attached.trans ha
    obtain ⟨refused, next⟩ := mmioWriteBytes_of_exec_rest (vs := vs) attached hoff
    have whole := mmioWriteBytes_cons_ok hb vs
    refine ⟨fun why h => ?_, fun u h => ?_⟩
    · rw [refused why h] at whole
      exact exec_mmioW_refused_of_bytes ha whole
    · obtain ⟨x, first, hx, rfl⟩ := next u h
      rw [hx] at whole
      rw [exec_mmioW_of_bytes ha whole]
      by_cases hw : s.cfg.windowLen.toNat ≤ off.toNat
      · rw [firstByteBeyond, if_pos hw, if_neg (Nat.not_lt.2 hw)]
        rfl
      · rw [firstByteBeyond, if_neg hw, if_pos (Nat.not_le.1 hw)]
        rfl

/-! ### The plane byte that a byte of a request leaves -/

/-- The modes in which a write takes no free value. -/
def NoDraw (s : State) : Prop := ¬ PlanarMode123 s ∨ s.params.writeMode123 ≠ .draw

/-- What a byte written at rebased address `r` leaves in plane `q` there, over what the plane held (R223 to R231). -/
def storedByte (s : State) (r : Nat) (v : Byte) (q : Plane) (old : Byte) : Byte :=
  if s.planeEnabled q = true ∧ r < s.params.planeSize then
    if s.chain4 = true ∨ s.oddEven = true then (if q = rawPlane s r then v else old)
    else if s.writeMode = 0 then maskMerge s.bitMask (s.srMux q v) old
    else s.vgaGkByte v q
  else old

/-- It is what the handler of one byte leaves, and the byte leaves nothing elsewhere. -/
theorem mmioByteWrite_planeRead {s t : State} {a r : Nat} {v : Byte} (hs : PlanesInv s.planes) (hd : NoDraw s)
    (hr : s.rebase a = some r) (h : s.mmioByteWrite a v = .ok t) (q : Plane) (o : Nat) :
    t.planeRead q o = if r = o then storedByte s o v q (s.planeRead q o) else s.planeRead q o := by
  obtain ⟨w, hw, rfl⟩ := mmioByteWrite_cases h
  change (s.commitBytes w.bytes).planeRead q o = _
  by_cases elsewhere : r = o
  · subst elsewhere
    rw [if_pos rfl]
    unfold storedByte
    by_cases raw : s.chain4 = true ∨ s.oddEven = true
    · rw [decodeWrite_raw hr raw] at hw
      cases hw
      rw [planeRead_gatedByte s hs, if_pos raw]
      by_cases plane : q = rawPlane s r
      · simp [plane]
      · simp [plane]
    · rw [if_neg raw]
      have hc : s.chain4 = false := by simpa using fun hc => raw (.inl hc)
      have ho : s.oddEven = false := by simpa using fun ho => raw (.inr ho)
      by_cases hm : s.writeMode = 0
      · rw [decodeWrite_mode0 hr hc ho hm] at hw
        cases hw
        rw [State.mode0Bytes, planeRead_enabledBytes s hs, if_pos hm]
        simp
      · have mode : PlanarMode123 s := ⟨hc, ho, hm⟩
        rw [decodeWrite_mode123 hr mode] at hw
        rw [if_neg hm]
        cases hp : s.params.writeMode123 with
        | refuse => rw [mode123Write_refuse hp] at hw; cases hw
        | draw => exact absurd hp (hd.resolve_left (not_not_intro mode))
        | vgaGk =>
          rw [mode123Write_vgaGk hp] at hw
          cases hw
          rw [planeRead_enabledBytes s hs]
          simp
  · rw [if_neg elsewhere]
    refine planeRead_commitBytes_other w.bytes s fun b hb => .inr fun same => elsewhere ?_
    obtain ⟨hrb, -⟩ := decodeWrite_bytes hw b hb
    exact (Option.some.inj (hr.symm.trans hrb)).trans same

theorem storedByte_same {s t : State} (h : SameButPlanes s t) (r : Nat) (v : Byte) (q : Plane) (old : Byte) :
    storedByte t r v q old = storedByte s r v q old := by
  rw [h.eq]
  rfl

theorem noDraw_same {s t : State} (h : SameButPlanes s t) (hd : NoDraw s) : NoDraw t := by
  rw [h.eq]
  exact hd

/-- Merging twice under one mask is merging once. -/
theorem maskMerge_idem (mask new old : Byte) :
    maskMerge mask new (maskMerge mask new old) = maskMerge mask new old := by
  refine BitVec.eq_of_getLsbD_eq fun i hi => ?_
  simp only [maskMerge, BitVec.getLsbD_or, BitVec.getLsbD_and, BitVec.getLsbD_not, hi, decide_true, Bool.true_and]
  cases mask.getLsbD i <;> simp

/-- The same byte stored again changes nothing. -/
theorem storedByte_idem (s : State) (r : Nat) (v : Byte) (q : Plane) (old : Byte) :
    storedByte s r v q (storedByte s r v q old) = storedByte s r v q old := by
  unfold storedByte
  by_cases enabled : s.planeEnabled q = true ∧ r < s.params.planeSize
  · simp only [if_pos enabled]
    by_cases raw : s.chain4 = true ∨ s.oddEven = true
    · simp only [if_pos raw]
      by_cases plane : q = rawPlane s r
      · simp only [if_pos plane]
      · simp only [if_neg plane]
    · simp only [if_neg raw]
      by_cases hm : s.writeMode = 0
      · simp only [if_pos hm, maskMerge_idem]
      · simp only [if_neg hm]
  · simp only [if_neg enabled]

/-! ### The plane byte that a request leaves -/

/-- What the bytes of a request from address `a` on leave in plane `q` at offset `o`, over what it held. -/
def storedBytes (s : State) (q : Plane) (o : Nat) : Nat → List Byte → Byte → Byte
  | _, [], old => old
  | a, v :: vs, old =>
    storedBytes s q o (a + 1) vs
      (if a < s.cfg.windowLen.toNat ∧ s.rebase a = some o then storedByte s o v q old else old)

theorem storedBytes_same {s t : State} (h : SameButPlanes s t) (q : Plane) (o : Nat) (bs : List Byte) (a : Nat)
    (old : Byte) : storedBytes t q o a bs old = storedBytes s q o a bs old := by
  induction bs generalizing a old with
  | nil => rfl
  | cons v vs ih => simp only [storedBytes, storedByte_same h, h.cfg, h.rebase, ih]

/-- It is what the handler of the bytes leaves. -/
theorem mmioWriteBytes_planeRead {s t : State} {a : Nat} {bs : List Byte} {first : Option Nat}
    (hs : PlanesInv s.planes) (hd : NoDraw s) (h : s.mmioWriteBytes a bs = .ok (t, first)) (q : Plane) (o : Nat) :
    t.planeRead q o = storedBytes s q o a bs (s.planeRead q o) := by
  induction bs generalizing s a first with
  | nil => cases h; rfl
  | cons v vs ih =>
    rw [storedBytes]
    obtain ⟨ha, -, g, hr⟩ | ⟨ha, u, hu, hr⟩ := mmioWriteBytes_cons_cases h
    · rw [if_neg (by omega)]
      exact ih hs hd hr
    · have same := mmioByteWrite_same hu
      rw [ih (mmioByteWrite_wf hu hs) (noDraw_same same hd) hr, storedBytes_same same]
      cases hb : s.rebase a with
      | none =>
        rw [mmioByteWrite_outOfMap hb] at hu
        cases hu
        simp
      | some r =>
        rw [mmioByteWrite_planeRead hs hd hb hu]
        simp [ha]

/-- No two addresses have the same rebased address. -/
theorem rebase_injective {s : State} {a b r : Nat} (ha : s.rebase a = some r) (hb : s.rebase b = some r) : a = b := by
  obtain ⟨ha, -⟩ := (rebase_eq_some_iff s a r).1 ha
  obtain ⟨hb, -⟩ := (rebase_eq_some_iff s b r).1 hb
  omega

/-- Bytes that all miss the offset leave it as it was. -/
theorem storedBytes_miss {s : State} {o a : Nat} (h : ∀ b, a ≤ b → s.rebase b ≠ some o) (q : Plane) (bs : List Byte)
    (old : Byte) : storedBytes s q o a bs old = old := by
  induction bs generalizing a old with
  | nil => rfl
  | cons v vs ih =>
    rw [storedBytes, if_neg fun hit => h a (Nat.le_refl a) hit.2]
    exact ih (fun b hb => h b (Nat.le_of_succ_le hb)) old

/-- The same request again changes nothing: at most one of its bytes reaches the offset (R237). -/
theorem storedBytes_idem (s : State) (q : Plane) (o : Nat) (bs : List Byte) (a : Nat) (old : Byte) :
    storedBytes s q o a bs (storedBytes s q o a bs old) = storedBytes s q o a bs old := by
  induction bs generalizing a old with
  | nil => rfl
  | cons v vs ih =>
    by_cases hit : a < s.cfg.windowLen.toNat ∧ s.rebase a = some o
    · have later : ∀ b, a + 1 ≤ b → s.rebase b ≠ some o := fun b hb hr => by
        have := rebase_injective hit.2 hr
        omega
      simp only [storedBytes, if_pos hit, storedBytes_miss later, storedByte_idem]
    · simp only [storedBytes, if_neg hit, ih]

/-- Settles O49: the second request reads the plane bytes that the first one stored, and it is not refused, as the first
one was not. -/
theorem mmioWriteIdempotent : Obligations.MmioWriteIdempotent := by
  intro s t off bytes hs hd h
  obtain ⟨ha, x, first, hx, same, rfl⟩ := execMmioW_cases h
  cases hy : x.mmioWriteBytes off.toNat bytes with
  | error why =>
    obtain ⟨hm, hp, k, r, hk, hin, hr⟩ := mmioWriteBytes_error hy
    rw [planarMode123_same same] at hm
    rw [same.params] at hp
    rw [same.cfg] at hin
    rw [same.rebase] at hr
    cases hx.symm.trans (mmioWriteBytes_refused hm hp hk hin hr)
  | ok res =>
    obtain ⟨y, again⟩ := res
    have bytesAgain := mmioWriteBytes_respond bytes x none (mmioStatus first) off.toNat
    rw [hy] at bytesAgain
    refine ⟨_, exec_mmioW_of_bytes (s := x.respond none (mmioStatus first)) (same.attached.trans ha) bytesAgain,
      fun q o => ?_⟩
    change y.planeRead q o = x.planeRead q o
    rw [mmioWriteBytes_planeRead (mmioWriteBytes_wf hx hs) (noDraw_same same hd) hy, storedBytes_same same,
      mmioWriteBytes_planeRead hs hd hx, storedBytes_idem]

/-! ### A write and the next read -/

/-- Write mode 0 with every bit updated and no Set/Reset stores the byte itself, in both Set/Reset modes. -/
theorem mode0_stores {s : State} (hb : s.bitMask = 0xFF) (he : s.enableSetReset = 0x00) (q : Plane) (v old : Byte) :
    maskMerge s.bitMask (s.srMux q v) old = v := by
  have mux : s.srMux q v = v := by
    cases hp : s.params.setReset with
    | bitwise =>
      rw [srMux_bitwise hp, he]
      change (0#8 &&& s.setReset) ||| (~~~0#8 &&& v) = v
      rw [BitVec.zero_and, BitVec.not_zero, BitVec.allOnes_and, BitVec.zero_or]
    | perPlane => rw [srMux_perPlane hp, he]; simp
  rw [mux, hb]
  change (v &&& BitVec.allOnes 8) ||| (old &&& ~~~BitVec.allOnes 8) = v
  rw [BitVec.and_allOnes, BitVec.not_allOnes, BitVec.and_zero, BitVec.or_zero]

/-- A read goes to the plane byte that a write to the same address left, which is the byte written (R233, R234). -/
theorem storedByte_of_decodeRead {s : State} {a r : Nat} {p : Plane} (hr : s.rebase a = some r)
    (hd : s.decodeRead a = some (p, r)) (hp : s.planeEnabled p = true) (ho : r < s.params.planeSize)
    (hm : s.chain4 = true ∨ s.oddEven = true ∨
      (s.writeMode = 0 ∧ s.bitMask = 0xFF ∧ s.enableSetReset = 0x00)) (v old : Byte) :
    storedByte s r v p old = v := by
  rw [storedByte, if_pos ⟨hp, ho⟩]
  by_cases raw : s.chain4 = true ∨ s.oddEven = true
  · rw [decodeRead_raw hr raw] at hd
    cases hd
    rw [if_pos raw, if_pos rfl]
  · obtain ⟨hw, hb, he⟩ := (or_assoc.2 hm).resolve_left raw
    rw [if_neg raw, if_pos hw, mode0_stores hb he]

/-- An offset that a read decodes is the rebased address. -/
theorem rebase_of_decodeRead {s : State} {a r : Nat} {p : Plane} (h : s.decodeRead a = some (p, r)) :
    s.rebase a = some r := by
  cases hr : s.rebase a with
  | none => rw [decodeRead_outOfMap hr] at h; cases h
  | some o =>
    obtain ⟨q, hq, -⟩ := (readDecode s a).2.1 o hr
    cases h.symm.trans hq
    rfl

/-- A run whose first pending request completes goes on from the state it leaves. -/
theorem runSteps_pending {k : Nat} {s t : State} {r : Request} {rest : List Arrival} {i : Instr}
    (hq : s.requests = { req := r } :: rest) (hd : decode r = .ok i)
    (he : exec i (s.accept rest) = .next t) : runSteps (k + 1) s = runSteps k t :=
  core_run_succ (M := Sys2Proof.core) ((stepRunsDecodedRequest s _ rest i hq rfl hd).trans he)

/-- A one-byte read in the window after any write (R100, R254). -/
theorem exec_mmioR_sees {t : State} {off : Offset} {p : Plane} {r : Nat} (ha : t.attached = true)
    (hin : off.toNat < t.cfg.windowLen.toNat) (hd : t.decodeRead off.toNat = some (p, r)) :
    ∃ u, exec (.mmioR off 1) t = .next u ∧
      u.response = some { rdata := some (.mmio [t.planeRead p r]), status := .ok } :=
  ⟨_, execMmioR_one ha hin hd, rfl⟩

/-- One byte in the window completes, unless it meets write mode 1, 2 or 3 under REFUSE. -/
theorem mmioByteWrite_completes {s : State} (hm : ¬ PlanarMode123 s) (a : Nat) (v : Byte) :
    ∃ t, s.mmioByteWrite a v = .ok t := by
  cases hw : s.decodeWrite a v with
  | error why => exact absurd (decodeWrite_error hw).2.1 hm
  | ok w => exact ⟨_, mmioByteWrite_of_decodeWrite hw⟩

/-- Settles O50: the read decodes in the state the write left, where the plane byte is the one of its decode. -/
theorem writeSeenByNextRead : Obligations.WriteSeenByNextRead := by
  refine ⟨fun s t off off' bytes p r h hin hd => ?_,
    fun s t off off' v w b seq gr hs hoff hw hb ho h hin hd => ?_, fun s off v p r ha hs hin hd hp ho hm => ?_⟩
  · obtain ⟨ha, x, first, -, same, rfl⟩ := execMmioW_cases h
    exact exec_mmioR_sees (same.attached.trans ha) (by rw [respond_cfg, same.cfg]; exact hin)
      ((same.decodeRead off'.toNat).trans hd)
  · obtain ⟨ha, -⟩ := execMmioW_cases h
    rw [exec_mmioW_one ha hoff (mmioByteWrite_of_decodeWrite hw)] at h
    cases h
    obtain ⟨same, -⟩ := commitBytes_same w.bytes s
    have stored : (s.commitBytes w.bytes).planeRead b.plane b.offset = b.value :=
      planeRead_commitBytes_mem w.bytes s (decodeWrite_planes_nodup hw) hs hb ho
    rw [← stored]
    exact exec_mmioR_sees (same.attached.trans ha) (same.cfg ▸ hin) hd
  · have hr := rebase_of_decodeRead hd
    have mode : ¬ PlanarMode123 s := by
      rintro ⟨hc, hodd, hw⟩
      obtain h | h | ⟨h, -, -⟩ := hm
      · rw [hc] at h; cases h
      · rw [hodd] at h; cases h
      · exact hw h
    have hq : PlanesInv (s.enqueue [reqMmioR off 1]).planes := hs
    obtain ⟨t, ht⟩ := mmioByteWrite_completes (s := s.enqueue [reqMmioR off 1]) mode off.toNat v
    have same := mmioByteWrite_same ht
    have written : t.planeRead p r = v := by
      rw [mmioByteWrite_planeRead hq (.inl mode) hr ht, if_pos rfl]
      exact storedByte_of_decodeRead hr hd hp ho hm v (s.planeRead p r)
    have first := exec_mmioW_one (s := s.enqueue [reqMmioR off 1]) ha hin ht
    obtain ⟨u, hu, answer⟩ := exec_mmioR_sees (t := (t.respond none .ok).accept s.requests)
      (same.attached.trans ha) (same.cfg ▸ hin) ((same.decodeRead off.toNat).trans hd)
    refine ⟨u, ?_, by rw [← written]; exact answer⟩
    rw [runSteps_enqueue (r := reqMmioW off [v]) (decode_encodeMmioW off [v]) first,
      runSteps_pending (r := reqMmioR off 1) (s := t.respond none .ok) same.requests (decode_encodeMmioR off 1) hu,
      runSteps_zero]

end Sys2Proof.Proofs
end
